-- ==== Sys2Proof/Word.lean ====
section
/-! DEFINITION. The two widths of the machine (spec/00_scope.md R5, R7): bytes and 16-bit addresses.
Both wrap: `+` and `-` on `Byte` are the spec's `+8`, `-8`, on `Word` its `+16`, `-16` (R7). -/

namespace Sys2Proof

/-- A data value: 8 bits (R5). -/
abbrev Byte := BitVec 8

/-- An address or program counter value: 16 bits (R5). -/
abbrev Word := BitVec 16

end Sys2Proof
end

