-- ==== Sys2Proof/Machine/Bits.lean ====
section
/-! DEFINITION. The notation of spec/00_scope.md R8 for halves and extensions of a 16-bit value. -/

namespace Sys2Proof

/-- `hi(w)` = `w[15:8]` (R8). -/
def hiByte (w : Word) : Byte := w.extractLsb' 8 8

/-- `lo(w)` = `w[7:0]` (R8). -/
def loByte (w : Word) : Byte := w.extractLsb' 0 8

/-- `b1 : b0`, the concatenation with `high` the high byte (R8). -/
def ofBytes (high low : Byte) : Word := high ++ low

/-- `zext_16(b)` (R8). -/
def zext16 (b : Byte) : Word := b.zeroExtend 16

/-- `sext_16(b)` (R8): the byte as a two's-complement value widened to 16 bits. -/
def sext16 (b : Byte) : Word := b.signExtend 16

end Sys2Proof
end

