-- ==== Sys2Proof/Config.lean ====
section
/-! DEFINITION. The parameters the spec leaves open (spec/00_scope.md R6, spec/92_eei_decisions.md section 5).
Three are a record, carried in `State` so that every claim is made for all their values (log 1).
`DecimalInvalid` is a constant without a body (log 5). `InitialMemory` is the memory of the state a run starts from (log 2). -/

namespace Sys2Proof

/-- The named parameters of R6 that are plain data. -/
structure Config where
  /-- `HAS_TRANSFER_GROUP`: opcodes AA, A8, 8A, 98, BA, 9A are populated (D2). -/
  hasTransferGroup : Bool
  /-- `INT_ENTRY_SETS_I`: NMI and IRQ entry sets InterruptDisable (D9). -/
  intEntrySetsI : Bool
  /-- `BRK_PUSH_ADDEND`: BRK pushes the post-fetch PC plus this (D13). -/
  brkPushAddend : Word
  deriving DecidableEq, Repr

/-- The defaults of R6. -/
def Config.default : Config where
  hasTransferGroup := true
  intEntrySetsI := true
  brkPushAddend := 2

/-- `op` of `DecimalInvalid` (R6): the decimal addition or subtraction. -/
inductive DecimalOp
  | add
  | sub
  deriving DecidableEq, Repr

/-- What a decimal addition or subtraction returns (R154): the result, the carry out, and the Z and N flags. -/
structure DecimalResult where
  r : Byte
  carry : Bool
  z : Bool
  n : Bool
  deriving DecidableEq, Repr, Inhabited

/-- `DecimalInvalid(op, a, m, c)` of R6, R154, U2: the result, C, Z and N of a decimal ADC or SBC when `a` or `m` has a
nibble above 9. Uninterpreted: a free value that depends on its four arguments alone (log 5). -/
opaque Config.decimalInvalid : DecimalOp → Byte → Byte → Bool → DecimalResult

end Sys2Proof
end

