-- ==== Sys2Proof/Syntax.lean ====
section
/-! DEFINITION. The instructions: one constructor for each of the 151 rows of spec/opcode_table.json (spec/30_encoding.md R98), named by
the row's mnemonic and, where the mnemonic has several categories, the category's short name (R92). A constructor carries its
operand bytes as R94 packs them; a pair the table does not list cannot be written (R101, log 12). -/

namespace Sys2Proof

/-- An instruction with its operand. The comment beside each constructor is its opcode byte and its rule. -/
inductive Instr
  | ldaImm (v : Byte)  -- A9 R140
  | ldaZp (z : Byte)  -- A5 R140
  | ldaZpx (z : Byte)  -- B5 R140
  | ldaAbs (w : Word)  -- AD R140
  | ldaAbx (w : Word)  -- BD R140
  | ldaAby (w : Word)  -- B9 R140
  | ldaIzx (z : Byte)  -- A1 R140
  | ldaIzy (z : Byte)  -- B1 R140
  | ldxImm (v : Byte)  -- A2 R141
  | ldxZp (z : Byte)  -- A6 R141
  | ldxZpy (z : Byte)  -- B6 R141
  | ldxAbs (w : Word)  -- AE R141
  | ldxAby (w : Word)  -- BE R141
  | ldyImm (v : Byte)  -- A0 R142
  | ldyZp (z : Byte)  -- A4 R142
  | ldyZpx (z : Byte)  -- B4 R142
  | ldyAbs (w : Word)  -- AC R142
  | ldyAbx (w : Word)  -- BC R142
  | staZp (z : Byte)  -- 85 R143
  | staZpx (z : Byte)  -- 95 R143
  | staAbs (w : Word)  -- 8D R143
  | staAbx (w : Word)  -- 9D R143
  | staAby (w : Word)  -- 99 R143
  | staIzx (z : Byte)  -- 81 R143
  | staIzy (z : Byte)  -- 91 R143
  | stxZp (z : Byte)  -- 86 R144
  | stxZpy (z : Byte)  -- 96 R144
  | stxAbs (w : Word)  -- 8E R144
  | styZp (z : Byte)  -- 84 R145
  | styZpx (z : Byte)  -- 94 R145
  | styAbs (w : Word)  -- 8C R145
  | adcImm (v : Byte)  -- 69 R150
  | adcZp (z : Byte)  -- 65 R150
  | adcZpx (z : Byte)  -- 75 R150
  | adcAbs (w : Word)  -- 6D R150
  | adcAbx (w : Word)  -- 7D R150
  | adcAby (w : Word)  -- 79 R150
  | adcIzx (z : Byte)  -- 61 R150
  | adcIzy (z : Byte)  -- 71 R150
  | sbcImm (v : Byte)  -- E9 R151
  | sbcZp (z : Byte)  -- E5 R151
  | sbcZpx (z : Byte)  -- F5 R151
  | sbcAbs (w : Word)  -- ED R151
  | sbcAbx (w : Word)  -- FD R151
  | sbcAby (w : Word)  -- F9 R151
  | sbcIzx (z : Byte)  -- E1 R151
  | sbcIzy (z : Byte)  -- F1 R151
  | incZp (z : Byte)  -- E6 R160
  | incZpx (z : Byte)  -- F6 R160
  | incAbs (w : Word)  -- EE R160
  | incAbx (w : Word)  -- FE R160
  | decZp (z : Byte)  -- C6 R161
  | decZpx (z : Byte)  -- D6 R161
  | decAbs (w : Word)  -- CE R161
  | decAbx (w : Word)  -- DE R161
  | inx  -- E8 R162
  | iny  -- C8 R163
  | dex  -- CA R164
  | dey  -- 88 R165
  | andImm (v : Byte)  -- 29 R170
  | andZp (z : Byte)  -- 25 R170
  | andZpx (z : Byte)  -- 35 R170
  | andAbs (w : Word)  -- 2D R170
  | andAbx (w : Word)  -- 3D R170
  | andAby (w : Word)  -- 39 R170
  | andIzx (z : Byte)  -- 21 R170
  | andIzy (z : Byte)  -- 31 R170
  | oraImm (v : Byte)  -- 09 R171
  | oraZp (z : Byte)  -- 05 R171
  | oraZpx (z : Byte)  -- 15 R171
  | oraAbs (w : Word)  -- 0D R171
  | oraAbx (w : Word)  -- 1D R171
  | oraAby (w : Word)  -- 19 R171
  | oraIzx (z : Byte)  -- 01 R171
  | oraIzy (z : Byte)  -- 11 R171
  | eorImm (v : Byte)  -- 49 R172
  | eorZp (z : Byte)  -- 45 R172
  | eorZpx (z : Byte)  -- 55 R172
  | eorAbs (w : Word)  -- 4D R172
  | eorAbx (w : Word)  -- 5D R172
  | eorAby (w : Word)  -- 59 R172
  | eorIzx (z : Byte)  -- 41 R172
  | eorIzy (z : Byte)  -- 51 R172
  | bitZp (z : Byte)  -- 24 R173
  | bitAbs (w : Word)  -- 2C R173
  | aslAcc  -- 0A R180
  | aslZp (z : Byte)  -- 06 R180
  | aslZpx (z : Byte)  -- 16 R180
  | aslAbs (w : Word)  -- 0E R180
  | aslAbx (w : Word)  -- 1E R180
  | lsrAcc  -- 4A R181
  | lsrZp (z : Byte)  -- 46 R181
  | lsrZpx (z : Byte)  -- 56 R181
  | lsrAbs (w : Word)  -- 4E R181
  | lsrAbx (w : Word)  -- 5E R181
  | rolAcc  -- 2A R182
  | rolZp (z : Byte)  -- 26 R182
  | rolZpx (z : Byte)  -- 36 R182
  | rolAbs (w : Word)  -- 2E R182
  | rolAbx (w : Word)  -- 3E R182
  | rorAcc  -- 6A R183
  | rorZp (z : Byte)  -- 66 R183
  | rorZpx (z : Byte)  -- 76 R183
  | rorAbs (w : Word)  -- 6E R183
  | rorAbx (w : Word)  -- 7E R183
  | cmpImm (v : Byte)  -- C9 R190
  | cmpZp (z : Byte)  -- C5 R190
  | cmpZpx (z : Byte)  -- D5 R190
  | cmpAbs (w : Word)  -- CD R190
  | cmpAbx (w : Word)  -- DD R190
  | cmpAby (w : Word)  -- D9 R190
  | cmpIzx (z : Byte)  -- C1 R190
  | cmpIzy (z : Byte)  -- D1 R190
  | cpxImm (v : Byte)  -- E0 R191
  | cpxZp (z : Byte)  -- E4 R191
  | cpxAbs (w : Word)  -- EC R191
  | cpyImm (v : Byte)  -- C0 R192
  | cpyZp (z : Byte)  -- C4 R192
  | cpyAbs (w : Word)  -- CC R192
  | bcc (off : Byte)  -- 90 R201
  | bcs (off : Byte)  -- B0 R202
  | beq (off : Byte)  -- F0 R203
  | bne (off : Byte)  -- D0 R204
  | bmi (off : Byte)  -- 30 R205
  | bpl (off : Byte)  -- 10 R206
  | bvc (off : Byte)  -- 50 R207
  | bvs (off : Byte)  -- 70 R208
  | jmpAbs (w : Word)  -- 4C R209
  | jmpInd (w : Word)  -- 6C R209
  | jsr (w : Word)  -- 20 R210
  | rts  -- 60 R211
  | pha  -- 48 R220
  | pla  -- 68 R221
  | php  -- 08 R222
  | plp  -- 28 R223
  | clc  -- 18 R224
  | sec  -- 38 R225
  | cli  -- 58 R226
  | sei  -- 78 R227
  | cld  -- D8 R228
  | sed  -- F8 R229
  | clv  -- B8 R230
  | brk  -- 00 R240
  | rti  -- 40 R241
  | nop  -- EA R242
  | tax  -- AA R243
  | tay  -- A8 R244
  | txa  -- 8A R245
  | tya  -- 98 R246
  | tsx  -- BA R247
  | txs  -- 9A R248
  deriving DecidableEq, Repr

end Sys2Proof
end

