-- ==== Sys2Proof/WellFormed.lean ====
section
/-! DEFINITION. Which instructions the machine has under given parameters. The operand widths and the pairs of instruction and category are
right by construction (R94, R101, log 12); what is left to check is the parameter `HAS_TRANSFER_GROUP` (R6, R96). -/

namespace Sys2Proof

/-- The six register transfers, R243 to R248. -/
def Instr.isTransfer : Instr → Bool
  | .tax | .tay | .txa | .tya | .tsx | .txs => true
  | .ldaImm _ | .ldaZp _ | .ldaZpx _ | .ldaAbs _ | .ldaAbx _ | .ldaAby _ | .ldaIzx _ | .ldaIzy _ | .ldxImm _ | .ldxZp _
  | .ldxZpy _ | .ldxAbs _ | .ldxAby _ | .ldyImm _ | .ldyZp _ | .ldyZpx _ | .ldyAbs _ | .ldyAbx _ | .staZp _ | .staZpx _
  | .staAbs _ | .staAbx _ | .staAby _ | .staIzx _ | .staIzy _ | .stxZp _ | .stxZpy _ | .stxAbs _ | .styZp _ | .styZpx _
  | .styAbs _ | .adcImm _ | .adcZp _ | .adcZpx _ | .adcAbs _ | .adcAbx _ | .adcAby _ | .adcIzx _ | .adcIzy _ | .sbcImm _
  | .sbcZp _ | .sbcZpx _ | .sbcAbs _ | .sbcAbx _ | .sbcAby _ | .sbcIzx _ | .sbcIzy _ | .incZp _ | .incZpx _ | .incAbs _
  | .incAbx _ | .decZp _ | .decZpx _ | .decAbs _ | .decAbx _ | .inx | .iny | .dex | .dey | .andImm _ | .andZp _ | .andZpx _
  | .andAbs _ | .andAbx _ | .andAby _ | .andIzx _ | .andIzy _ | .oraImm _ | .oraZp _ | .oraZpx _ | .oraAbs _ | .oraAbx _
  | .oraAby _ | .oraIzx _ | .oraIzy _ | .eorImm _ | .eorZp _ | .eorZpx _ | .eorAbs _ | .eorAbx _ | .eorAby _ | .eorIzx _
  | .eorIzy _ | .bitZp _ | .bitAbs _ | .aslAcc | .aslZp _ | .aslZpx _ | .aslAbs _ | .aslAbx _ | .lsrAcc | .lsrZp _ | .lsrZpx _
  | .lsrAbs _ | .lsrAbx _ | .rolAcc | .rolZp _ | .rolZpx _ | .rolAbs _ | .rolAbx _ | .rorAcc | .rorZp _ | .rorZpx _ | .rorAbs _
  | .rorAbx _ | .cmpImm _ | .cmpZp _ | .cmpZpx _ | .cmpAbs _ | .cmpAbx _ | .cmpAby _ | .cmpIzx _ | .cmpIzy _ | .cpxImm _
  | .cpxZp _ | .cpxAbs _ | .cpyImm _ | .cpyZp _ | .cpyAbs _ | .bcc _ | .bcs _ | .beq _ | .bne _ | .bmi _ | .bpl _ | .bvc _
  | .bvs _ | .jmpAbs _ | .jmpInd _ | .jsr _ | .rts | .pha | .pla | .php | .plp | .clc | .sec | .cli | .sei | .cld | .sed | .clv
  | .brk | .rti | .nop => false

/-- `i` is in the Opcode Table under `cfg`: with `HAS_TRANSFER_GROUP` false "the six opcodes are illegal opcodes and rules R243–R248 are
void" (spec/49_system_transfer.md section 2). -/
def Instr.wellFormed (cfg : Config) (i : Instr) : Bool :=
  !i.isTransfer || cfg.hasTransferGroup

end Sys2Proof
end

