-- ==== Sys2Proof/Decode.lean ====
section
/-! DEFINITION. The Opcode Table of spec/30_encoding.md R98, the decoder (R90 to R94, R100) and, after it, the encoder, whose opcode bytes
are taken from the spec's other listing, R99. Opcode bytes are the spec's own, from general knowledge (G1, log 14). -/

namespace Sys2Proof

/-- The thirteen addressing categories of R92. -/
inductive Mode
  | implied
  | accumulator
  | immediate
  | zeroPage
  | zeroPageX
  | zeroPageY
  | absolute
  | absoluteX
  | absoluteY
  | indirect
  | indirectX
  | indirectY
  | relative
  deriving DecidableEq, Repr

/-- Operand bytes of a category, the third column of R92. -/
def Mode.operandBytes : Mode → Nat
  | .implied | .accumulator => 0
  | .immediate | .zeroPage | .zeroPageX | .zeroPageY | .indirectX | .indirectY | .relative => 1
  | .absolute | .absoluteX | .absoluteY | .indirect => 2

/-- A resolved operand: "the category paired with the operand bytes read at decode time" (R11, R94). -/
inductive ResolvedOperand
  | implied
  | accumulator
  | immediate (v : Byte)
  | zeroPage (z : Byte)
  | zeroPageX (z : Byte)
  | zeroPageY (z : Byte)
  | absolute (w : Word)
  | absoluteX (w : Word)
  | absoluteY (w : Word)
  | indirect (w : Word)
  | indirectX (z : Byte)
  | indirectY (z : Byte)
  | relative (off : Byte)
  deriving DecidableEq, Repr

/-- The category of a resolved operand. -/
def ResolvedOperand.mode : ResolvedOperand → Mode
  | .implied => .implied
  | .accumulator => .accumulator
  | .immediate _ => .immediate
  | .zeroPage _ => .zeroPage
  | .zeroPageX _ => .zeroPageX
  | .zeroPageY _ => .zeroPageY
  | .absolute _ => .absolute
  | .absoluteX _ => .absoluteX
  | .absoluteY _ => .absoluteY
  | .indirect _ => .indirect
  | .indirectX _ => .indirectX
  | .indirectY _ => .indirectY
  | .relative _ => .relative

/-- The operand's bytes in ascending address order: the low byte first (R91, R94). -/
def ResolvedOperand.bytes : ResolvedOperand → List Byte
  | .implied | .accumulator => []
  | .immediate b | .zeroPage b | .zeroPageX b | .zeroPageY b | .indirectX b | .indirectY b | .relative b => [b]
  | .absolute w | .absoluteX w | .absoluteY w | .indirect w => [loByte w, hiByte w]

/-- The 56 operation identities (R97). -/
inductive Mnemonic
  | lda | ldx | ldy | sta | stx | sty
  | adc | sbc
  | inc | dec | inx | iny | dex | dey
  | and | ora | eor | bit
  | asl | lsr | rol | ror
  | cmp | cpx | cpy
  | bcc | bcs | beq | bne | bmi | bpl | bvc | bvs
  | jmp | jsr | rts
  | pha | pla | php | plp
  | clc | sec | cli | sei | cld | sed | clv
  | brk | rti | nop
  | tax | tay | txa | tya | tsx | txs
  deriving DecidableEq, Repr

/-- The six transfers, absent when `HAS_TRANSFER_GROUP` is false (R96). -/
def Mnemonic.isTransfer (m : Mnemonic) : Bool :=
  m == .tax || m == .tay || m == .txa || m == .tya || m == .tsx || m == .txs

/-- How an instruction is made from its operand bytes: with none, one or two of them (R91). -/
inductive Form
  | op0 (i : Instr)
  | op1 (f : Byte → Instr)
  | op2 (f : Word → Instr)

/-- A populated slot of the Opcode Table: "(Instruction identity, base cycle count, page-cross-adds-cycle bool, branch-adds-cycle bool)" with
the category (R95, R96). -/
structure OpcodeEntry where
  mnemonic : Mnemonic
  mode : Mode
  baseCycles : Nat
  pageCrossAddsCycle : Bool
  branchAddsCycle : Bool
  form : Form

/-- R98, opcodes 00 to 0F. -/
def opcodeRows0 : List (Byte × OpcodeEntry) := [
  (0x00, ⟨.brk, .implied, 7, false, false, .op0 .brk⟩),
  (0x01, ⟨.ora, .indirectX, 6, false, false, .op1 .oraIzx⟩),
  (0x05, ⟨.ora, .zeroPage, 3, false, false, .op1 .oraZp⟩),
  (0x06, ⟨.asl, .zeroPage, 5, false, false, .op1 .aslZp⟩),
  (0x08, ⟨.php, .implied, 3, false, false, .op0 .php⟩),
  (0x09, ⟨.ora, .immediate, 2, false, false, .op1 .oraImm⟩),
  (0x0A, ⟨.asl, .accumulator, 2, false, false, .op0 .aslAcc⟩),
  (0x0D, ⟨.ora, .absolute, 4, false, false, .op2 .oraAbs⟩),
  (0x0E, ⟨.asl, .absolute, 6, false, false, .op2 .aslAbs⟩)]

/-- R98, opcodes 10 to 1F. -/
def opcodeRows1 : List (Byte × OpcodeEntry) := [
  (0x10, ⟨.bpl, .relative, 2, false, true, .op1 .bpl⟩),
  (0x11, ⟨.ora, .indirectY, 5, true, false, .op1 .oraIzy⟩),
  (0x15, ⟨.ora, .zeroPageX, 4, false, false, .op1 .oraZpx⟩),
  (0x16, ⟨.asl, .zeroPageX, 6, false, false, .op1 .aslZpx⟩),
  (0x18, ⟨.clc, .implied, 2, false, false, .op0 .clc⟩),
  (0x19, ⟨.ora, .absoluteY, 4, true, false, .op2 .oraAby⟩),
  (0x1D, ⟨.ora, .absoluteX, 4, true, false, .op2 .oraAbx⟩),
  (0x1E, ⟨.asl, .absoluteX, 7, false, false, .op2 .aslAbx⟩)]

/-- R98, opcodes 20 to 2F. -/
def opcodeRows2 : List (Byte × OpcodeEntry) := [
  (0x20, ⟨.jsr, .absolute, 6, false, false, .op2 .jsr⟩),
  (0x21, ⟨.and, .indirectX, 6, false, false, .op1 .andIzx⟩),
  (0x24, ⟨.bit, .zeroPage, 3, false, false, .op1 .bitZp⟩),
  (0x25, ⟨.and, .zeroPage, 3, false, false, .op1 .andZp⟩),
  (0x26, ⟨.rol, .zeroPage, 5, false, false, .op1 .rolZp⟩),
  (0x28, ⟨.plp, .implied, 4, false, false, .op0 .plp⟩),
  (0x29, ⟨.and, .immediate, 2, false, false, .op1 .andImm⟩),
  (0x2A, ⟨.rol, .accumulator, 2, false, false, .op0 .rolAcc⟩),
  (0x2C, ⟨.bit, .absolute, 4, false, false, .op2 .bitAbs⟩),
  (0x2D, ⟨.and, .absolute, 4, false, false, .op2 .andAbs⟩),
  (0x2E, ⟨.rol, .absolute, 6, false, false, .op2 .rolAbs⟩)]

/-- R98, opcodes 30 to 3F. -/
def opcodeRows3 : List (Byte × OpcodeEntry) := [
  (0x30, ⟨.bmi, .relative, 2, false, true, .op1 .bmi⟩),
  (0x31, ⟨.and, .indirectY, 5, true, false, .op1 .andIzy⟩),
  (0x35, ⟨.and, .zeroPageX, 4, false, false, .op1 .andZpx⟩),
  (0x36, ⟨.rol, .zeroPageX, 6, false, false, .op1 .rolZpx⟩),
  (0x38, ⟨.sec, .implied, 2, false, false, .op0 .sec⟩),
  (0x39, ⟨.and, .absoluteY, 4, true, false, .op2 .andAby⟩),
  (0x3D, ⟨.and, .absoluteX, 4, true, false, .op2 .andAbx⟩),
  (0x3E, ⟨.rol, .absoluteX, 7, false, false, .op2 .rolAbx⟩)]

/-- R98, opcodes 40 to 4F. -/
def opcodeRows4 : List (Byte × OpcodeEntry) := [
  (0x40, ⟨.rti, .implied, 6, false, false, .op0 .rti⟩),
  (0x41, ⟨.eor, .indirectX, 6, false, false, .op1 .eorIzx⟩),
  (0x45, ⟨.eor, .zeroPage, 3, false, false, .op1 .eorZp⟩),
  (0x46, ⟨.lsr, .zeroPage, 5, false, false, .op1 .lsrZp⟩),
  (0x48, ⟨.pha, .implied, 3, false, false, .op0 .pha⟩),
  (0x49, ⟨.eor, .immediate, 2, false, false, .op1 .eorImm⟩),
  (0x4A, ⟨.lsr, .accumulator, 2, false, false, .op0 .lsrAcc⟩),
  (0x4C, ⟨.jmp, .absolute, 3, false, false, .op2 .jmpAbs⟩),
  (0x4D, ⟨.eor, .absolute, 4, false, false, .op2 .eorAbs⟩),
  (0x4E, ⟨.lsr, .absolute, 6, false, false, .op2 .lsrAbs⟩)]

/-- R98, opcodes 50 to 5F. -/
def opcodeRows5 : List (Byte × OpcodeEntry) := [
  (0x50, ⟨.bvc, .relative, 2, false, true, .op1 .bvc⟩),
  (0x51, ⟨.eor, .indirectY, 5, true, false, .op1 .eorIzy⟩),
  (0x55, ⟨.eor, .zeroPageX, 4, false, false, .op1 .eorZpx⟩),
  (0x56, ⟨.lsr, .zeroPageX, 6, false, false, .op1 .lsrZpx⟩),
  (0x58, ⟨.cli, .implied, 2, false, false, .op0 .cli⟩),
  (0x59, ⟨.eor, .absoluteY, 4, true, false, .op2 .eorAby⟩),
  (0x5D, ⟨.eor, .absoluteX, 4, true, false, .op2 .eorAbx⟩),
  (0x5E, ⟨.lsr, .absoluteX, 7, false, false, .op2 .lsrAbx⟩)]

/-- R98, opcodes 60 to 6F. -/
def opcodeRows6 : List (Byte × OpcodeEntry) := [
  (0x60, ⟨.rts, .implied, 6, false, false, .op0 .rts⟩),
  (0x61, ⟨.adc, .indirectX, 6, false, false, .op1 .adcIzx⟩),
  (0x65, ⟨.adc, .zeroPage, 3, false, false, .op1 .adcZp⟩),
  (0x66, ⟨.ror, .zeroPage, 5, false, false, .op1 .rorZp⟩),
  (0x68, ⟨.pla, .implied, 4, false, false, .op0 .pla⟩),
  (0x69, ⟨.adc, .immediate, 2, false, false, .op1 .adcImm⟩),
  (0x6A, ⟨.ror, .accumulator, 2, false, false, .op0 .rorAcc⟩),
  (0x6C, ⟨.jmp, .indirect, 5, false, false, .op2 .jmpInd⟩),
  (0x6D, ⟨.adc, .absolute, 4, false, false, .op2 .adcAbs⟩),
  (0x6E, ⟨.ror, .absolute, 6, false, false, .op2 .rorAbs⟩)]

/-- R98, opcodes 70 to 7F. -/
def opcodeRows7 : List (Byte × OpcodeEntry) := [
  (0x70, ⟨.bvs, .relative, 2, false, true, .op1 .bvs⟩),
  (0x71, ⟨.adc, .indirectY, 5, true, false, .op1 .adcIzy⟩),
  (0x75, ⟨.adc, .zeroPageX, 4, false, false, .op1 .adcZpx⟩),
  (0x76, ⟨.ror, .zeroPageX, 6, false, false, .op1 .rorZpx⟩),
  (0x78, ⟨.sei, .implied, 2, false, false, .op0 .sei⟩),
  (0x79, ⟨.adc, .absoluteY, 4, true, false, .op2 .adcAby⟩),
  (0x7D, ⟨.adc, .absoluteX, 4, true, false, .op2 .adcAbx⟩),
  (0x7E, ⟨.ror, .absoluteX, 7, false, false, .op2 .rorAbx⟩)]

/-- R98, opcodes 80 to 8F. -/
def opcodeRows8 : List (Byte × OpcodeEntry) := [
  (0x81, ⟨.sta, .indirectX, 6, false, false, .op1 .staIzx⟩),
  (0x84, ⟨.sty, .zeroPage, 3, false, false, .op1 .styZp⟩),
  (0x85, ⟨.sta, .zeroPage, 3, false, false, .op1 .staZp⟩),
  (0x86, ⟨.stx, .zeroPage, 3, false, false, .op1 .stxZp⟩),
  (0x88, ⟨.dey, .implied, 2, false, false, .op0 .dey⟩),
  (0x8A, ⟨.txa, .implied, 2, false, false, .op0 .txa⟩),
  (0x8C, ⟨.sty, .absolute, 4, false, false, .op2 .styAbs⟩),
  (0x8D, ⟨.sta, .absolute, 4, false, false, .op2 .staAbs⟩),
  (0x8E, ⟨.stx, .absolute, 4, false, false, .op2 .stxAbs⟩)]

/-- R98, opcodes 90 to 9F. -/
def opcodeRows9 : List (Byte × OpcodeEntry) := [
  (0x90, ⟨.bcc, .relative, 2, false, true, .op1 .bcc⟩),
  (0x91, ⟨.sta, .indirectY, 6, false, false, .op1 .staIzy⟩),
  (0x94, ⟨.sty, .zeroPageX, 4, false, false, .op1 .styZpx⟩),
  (0x95, ⟨.sta, .zeroPageX, 4, false, false, .op1 .staZpx⟩),
  (0x96, ⟨.stx, .zeroPageY, 4, false, false, .op1 .stxZpy⟩),
  (0x98, ⟨.tya, .implied, 2, false, false, .op0 .tya⟩),
  (0x99, ⟨.sta, .absoluteY, 5, false, false, .op2 .staAby⟩),
  (0x9A, ⟨.txs, .implied, 2, false, false, .op0 .txs⟩),
  (0x9D, ⟨.sta, .absoluteX, 5, false, false, .op2 .staAbx⟩)]

/-- R98, opcodes A0 to AF. -/
def opcodeRowsA : List (Byte × OpcodeEntry) := [
  (0xA0, ⟨.ldy, .immediate, 2, false, false, .op1 .ldyImm⟩),
  (0xA1, ⟨.lda, .indirectX, 6, false, false, .op1 .ldaIzx⟩),
  (0xA2, ⟨.ldx, .immediate, 2, false, false, .op1 .ldxImm⟩),
  (0xA4, ⟨.ldy, .zeroPage, 3, false, false, .op1 .ldyZp⟩),
  (0xA5, ⟨.lda, .zeroPage, 3, false, false, .op1 .ldaZp⟩),
  (0xA6, ⟨.ldx, .zeroPage, 3, false, false, .op1 .ldxZp⟩),
  (0xA8, ⟨.tay, .implied, 2, false, false, .op0 .tay⟩),
  (0xA9, ⟨.lda, .immediate, 2, false, false, .op1 .ldaImm⟩),
  (0xAA, ⟨.tax, .implied, 2, false, false, .op0 .tax⟩),
  (0xAC, ⟨.ldy, .absolute, 4, false, false, .op2 .ldyAbs⟩),
  (0xAD, ⟨.lda, .absolute, 4, false, false, .op2 .ldaAbs⟩),
  (0xAE, ⟨.ldx, .absolute, 4, false, false, .op2 .ldxAbs⟩)]

/-- R98, opcodes B0 to BF. -/
def opcodeRowsB : List (Byte × OpcodeEntry) := [
  (0xB0, ⟨.bcs, .relative, 2, false, true, .op1 .bcs⟩),
  (0xB1, ⟨.lda, .indirectY, 5, true, false, .op1 .ldaIzy⟩),
  (0xB4, ⟨.ldy, .zeroPageX, 4, false, false, .op1 .ldyZpx⟩),
  (0xB5, ⟨.lda, .zeroPageX, 4, false, false, .op1 .ldaZpx⟩),
  (0xB6, ⟨.ldx, .zeroPageY, 4, false, false, .op1 .ldxZpy⟩),
  (0xB8, ⟨.clv, .implied, 2, false, false, .op0 .clv⟩),
  (0xB9, ⟨.lda, .absoluteY, 4, true, false, .op2 .ldaAby⟩),
  (0xBA, ⟨.tsx, .implied, 2, false, false, .op0 .tsx⟩),
  (0xBC, ⟨.ldy, .absoluteX, 4, true, false, .op2 .ldyAbx⟩),
  (0xBD, ⟨.lda, .absoluteX, 4, true, false, .op2 .ldaAbx⟩),
  (0xBE, ⟨.ldx, .absoluteY, 4, true, false, .op2 .ldxAby⟩)]

/-- R98, opcodes C0 to CF. -/
def opcodeRowsC : List (Byte × OpcodeEntry) := [
  (0xC0, ⟨.cpy, .immediate, 2, false, false, .op1 .cpyImm⟩),
  (0xC1, ⟨.cmp, .indirectX, 6, false, false, .op1 .cmpIzx⟩),
  (0xC4, ⟨.cpy, .zeroPage, 3, false, false, .op1 .cpyZp⟩),
  (0xC5, ⟨.cmp, .zeroPage, 3, false, false, .op1 .cmpZp⟩),
  (0xC6, ⟨.dec, .zeroPage, 5, false, false, .op1 .decZp⟩),
  (0xC8, ⟨.iny, .implied, 2, false, false, .op0 .iny⟩),
  (0xC9, ⟨.cmp, .immediate, 2, false, false, .op1 .cmpImm⟩),
  (0xCA, ⟨.dex, .implied, 2, false, false, .op0 .dex⟩),
  (0xCC, ⟨.cpy, .absolute, 4, false, false, .op2 .cpyAbs⟩),
  (0xCD, ⟨.cmp, .absolute, 4, false, false, .op2 .cmpAbs⟩),
  (0xCE, ⟨.dec, .absolute, 6, false, false, .op2 .decAbs⟩)]

/-- R98, opcodes D0 to DF. -/
def opcodeRowsD : List (Byte × OpcodeEntry) := [
  (0xD0, ⟨.bne, .relative, 2, false, true, .op1 .bne⟩),
  (0xD1, ⟨.cmp, .indirectY, 5, true, false, .op1 .cmpIzy⟩),
  (0xD5, ⟨.cmp, .zeroPageX, 4, false, false, .op1 .cmpZpx⟩),
  (0xD6, ⟨.dec, .zeroPageX, 6, false, false, .op1 .decZpx⟩),
  (0xD8, ⟨.cld, .implied, 2, false, false, .op0 .cld⟩),
  (0xD9, ⟨.cmp, .absoluteY, 4, true, false, .op2 .cmpAby⟩),
  (0xDD, ⟨.cmp, .absoluteX, 4, true, false, .op2 .cmpAbx⟩),
  (0xDE, ⟨.dec, .absoluteX, 7, false, false, .op2 .decAbx⟩)]

/-- R98, opcodes E0 to EF. -/
def opcodeRowsE : List (Byte × OpcodeEntry) := [
  (0xE0, ⟨.cpx, .immediate, 2, false, false, .op1 .cpxImm⟩),
  (0xE1, ⟨.sbc, .indirectX, 6, false, false, .op1 .sbcIzx⟩),
  (0xE4, ⟨.cpx, .zeroPage, 3, false, false, .op1 .cpxZp⟩),
  (0xE5, ⟨.sbc, .zeroPage, 3, false, false, .op1 .sbcZp⟩),
  (0xE6, ⟨.inc, .zeroPage, 5, false, false, .op1 .incZp⟩),
  (0xE8, ⟨.inx, .implied, 2, false, false, .op0 .inx⟩),
  (0xE9, ⟨.sbc, .immediate, 2, false, false, .op1 .sbcImm⟩),
  (0xEA, ⟨.nop, .implied, 2, false, false, .op0 .nop⟩),
  (0xEC, ⟨.cpx, .absolute, 4, false, false, .op2 .cpxAbs⟩),
  (0xED, ⟨.sbc, .absolute, 4, false, false, .op2 .sbcAbs⟩),
  (0xEE, ⟨.inc, .absolute, 6, false, false, .op2 .incAbs⟩)]

/-- R98, opcodes F0 to FF. -/
def opcodeRowsF : List (Byte × OpcodeEntry) := [
  (0xF0, ⟨.beq, .relative, 2, false, true, .op1 .beq⟩),
  (0xF1, ⟨.sbc, .indirectY, 5, true, false, .op1 .sbcIzy⟩),
  (0xF5, ⟨.sbc, .zeroPageX, 4, false, false, .op1 .sbcZpx⟩),
  (0xF6, ⟨.inc, .zeroPageX, 6, false, false, .op1 .incZpx⟩),
  (0xF8, ⟨.sed, .implied, 2, false, false, .op0 .sed⟩),
  (0xF9, ⟨.sbc, .absoluteY, 4, true, false, .op2 .sbcAby⟩),
  (0xFD, ⟨.sbc, .absoluteX, 4, true, false, .op2 .sbcAbx⟩),
  (0xFE, ⟨.inc, .absoluteX, 7, false, false, .op2 .incAbx⟩)]

/-- The map of R97 by rows: the populated slots whose high nibble is `h`. -/
def opcodeRow : Nat → List (Byte × OpcodeEntry)
  | 0 => opcodeRows0
  | 1 => opcodeRows1
  | 2 => opcodeRows2
  | 3 => opcodeRows3
  | 4 => opcodeRows4
  | 5 => opcodeRows5
  | 6 => opcodeRows6
  | 7 => opcodeRows7
  | 8 => opcodeRows8
  | 9 => opcodeRows9
  | 10 => opcodeRowsA
  | 11 => opcodeRowsB
  | 12 => opcodeRowsC
  | 13 => opcodeRowsD
  | 14 => opcodeRowsE
  | 15 => opcodeRowsF
  | _ => []

/-- The 151 populated slots of R98, in opcode order. -/
def opcodeTable : List (Byte × OpcodeEntry) := (List.range 16).flatMap opcodeRow

/-- The row of an opcode byte, if the list has one. -/
def findRow : List (Byte × OpcodeEntry) → Byte → Option OpcodeEntry
  | [], _ => none
  | (b, e) :: rows, op => if b = op then some e else findRow rows op

/-- `lookup(opcode) -> optional OpcodeEntry` of R96: the populated slots are those of R98, less the six transfers if
`HAS_TRANSFER_GROUP` is false (R100). -/
def opcodeEntry (cfg : Config) (op : Byte) : Option OpcodeEntry :=
  match findRow (opcodeRow (op.toNat / 16)) op with
  | none => none
  | some e => if e.mnemonic.isTransfer && !cfg.hasTransferGroup then none else some e

/-- Why a byte sequence is rejected. -/
inductive DecodeError
  /-- The opcode byte's slot is unpopulated (R100). -/
  | illegalOpcode (op : Byte)
  /-- The bytes end before the instruction does; memory never ends, so only a short list of bytes is rejected so. -/
  | truncated
  deriving DecidableEq, Repr

/-- A decoder's answer: the instruction and the bytes after it, or a named rejection. -/
inductive Decoded
  | ok (i : Instr) (rest : List Byte)
  | rejected (why : DecodeError)
  deriving DecidableEq, Repr

/-- Give an entry its operand bytes, low byte first (R94). -/
def Form.assemble : Form → List Byte → Decoded
  | .op0 i, rest => .ok i rest
  | .op1 f, b1 :: rest => .ok (f b1) rest
  | .op2 f, b1 :: b2 :: rest => .ok (f (ofBytes b2 b1)) rest
  | .op1 _, [] => .rejected .truncated
  | .op2 _, [] => .rejected .truncated
  | .op2 _, [_] => .rejected .truncated

/-- Decode the instruction at the head of a list of bytes: the opcode byte alone gives the operation, the category and the length (R90, R93). -/
def decode (cfg : Config) : List Byte → Decoded
  | [] => .rejected .truncated
  | op :: rest =>
    match opcodeEntry cfg op with
    | none => .rejected (.illegalOpcode op)
    | some e => e.form.assemble rest

/-- The three bytes, lowest address first, of an instruction given as a number as spec/opcode_table.json numbers its bits:
bit 0 is the least significant bit of the first byte, and every bit from `nbits` up is 0. -/
def tableWordBytes (nbits w : Nat) : List Byte :=
  let v := w % 2 ^ nbits
  [BitVec.ofNat 8 v, BitVec.ofNat 8 (v / 256), BitVec.ofNat 8 (v / 65536)]

/-- The instruction the decoder reads from a table word, under the default parameters of R6. -/
def decodeTableWord (nbits w : Nat) : Option Instr :=
  match decode Config.default (tableWordBytes nbits w) with
  | .ok i _ => some i
  | .rejected _ => none

/-- The opcode byte of an instruction, from R99. -/
def Instr.opcode : Instr → Byte
  | .ldaImm _ => 0xA9
  | .ldaZp _ => 0xA5
  | .ldaZpx _ => 0xB5
  | .ldaAbs _ => 0xAD
  | .ldaAbx _ => 0xBD
  | .ldaAby _ => 0xB9
  | .ldaIzx _ => 0xA1
  | .ldaIzy _ => 0xB1
  | .ldxImm _ => 0xA2
  | .ldxZp _ => 0xA6
  | .ldxZpy _ => 0xB6
  | .ldxAbs _ => 0xAE
  | .ldxAby _ => 0xBE
  | .ldyImm _ => 0xA0
  | .ldyZp _ => 0xA4
  | .ldyZpx _ => 0xB4
  | .ldyAbs _ => 0xAC
  | .ldyAbx _ => 0xBC
  | .staZp _ => 0x85
  | .staZpx _ => 0x95
  | .staAbs _ => 0x8D
  | .staAbx _ => 0x9D
  | .staAby _ => 0x99
  | .staIzx _ => 0x81
  | .staIzy _ => 0x91
  | .stxZp _ => 0x86
  | .stxZpy _ => 0x96
  | .stxAbs _ => 0x8E
  | .styZp _ => 0x84
  | .styZpx _ => 0x94
  | .styAbs _ => 0x8C
  | .adcImm _ => 0x69
  | .adcZp _ => 0x65
  | .adcZpx _ => 0x75
  | .adcAbs _ => 0x6D
  | .adcAbx _ => 0x7D
  | .adcAby _ => 0x79
  | .adcIzx _ => 0x61
  | .adcIzy _ => 0x71
  | .sbcImm _ => 0xE9
  | .sbcZp _ => 0xE5
  | .sbcZpx _ => 0xF5
  | .sbcAbs _ => 0xED
  | .sbcAbx _ => 0xFD
  | .sbcAby _ => 0xF9
  | .sbcIzx _ => 0xE1
  | .sbcIzy _ => 0xF1
  | .incZp _ => 0xE6
  | .incZpx _ => 0xF6
  | .incAbs _ => 0xEE
  | .incAbx _ => 0xFE
  | .decZp _ => 0xC6
  | .decZpx _ => 0xD6
  | .decAbs _ => 0xCE
  | .decAbx _ => 0xDE
  | .inx => 0xE8
  | .iny => 0xC8
  | .dex => 0xCA
  | .dey => 0x88
  | .andImm _ => 0x29
  | .andZp _ => 0x25
  | .andZpx _ => 0x35
  | .andAbs _ => 0x2D
  | .andAbx _ => 0x3D
  | .andAby _ => 0x39
  | .andIzx _ => 0x21
  | .andIzy _ => 0x31
  | .oraImm _ => 0x09
  | .oraZp _ => 0x05
  | .oraZpx _ => 0x15
  | .oraAbs _ => 0x0D
  | .oraAbx _ => 0x1D
  | .oraAby _ => 0x19
  | .oraIzx _ => 0x01
  | .oraIzy _ => 0x11
  | .eorImm _ => 0x49
  | .eorZp _ => 0x45
  | .eorZpx _ => 0x55
  | .eorAbs _ => 0x4D
  | .eorAbx _ => 0x5D
  | .eorAby _ => 0x59
  | .eorIzx _ => 0x41
  | .eorIzy _ => 0x51
  | .bitZp _ => 0x24
  | .bitAbs _ => 0x2C
  | .aslAcc => 0x0A
  | .aslZp _ => 0x06
  | .aslZpx _ => 0x16
  | .aslAbs _ => 0x0E
  | .aslAbx _ => 0x1E
  | .lsrAcc => 0x4A
  | .lsrZp _ => 0x46
  | .lsrZpx _ => 0x56
  | .lsrAbs _ => 0x4E
  | .lsrAbx _ => 0x5E
  | .rolAcc => 0x2A
  | .rolZp _ => 0x26
  | .rolZpx _ => 0x36
  | .rolAbs _ => 0x2E
  | .rolAbx _ => 0x3E
  | .rorAcc => 0x6A
  | .rorZp _ => 0x66
  | .rorZpx _ => 0x76
  | .rorAbs _ => 0x6E
  | .rorAbx _ => 0x7E
  | .cmpImm _ => 0xC9
  | .cmpZp _ => 0xC5
  | .cmpZpx _ => 0xD5
  | .cmpAbs _ => 0xCD
  | .cmpAbx _ => 0xDD
  | .cmpAby _ => 0xD9
  | .cmpIzx _ => 0xC1
  | .cmpIzy _ => 0xD1
  | .cpxImm _ => 0xE0
  | .cpxZp _ => 0xE4
  | .cpxAbs _ => 0xEC
  | .cpyImm _ => 0xC0
  | .cpyZp _ => 0xC4
  | .cpyAbs _ => 0xCC
  | .bcc _ => 0x90
  | .bcs _ => 0xB0
  | .beq _ => 0xF0
  | .bne _ => 0xD0
  | .bmi _ => 0x30
  | .bpl _ => 0x10
  | .bvc _ => 0x50
  | .bvs _ => 0x70
  | .jmpAbs _ => 0x4C
  | .jmpInd _ => 0x6C
  | .jsr _ => 0x20
  | .rts => 0x60
  | .pha => 0x48
  | .pla => 0x68
  | .php => 0x08
  | .plp => 0x28
  | .clc => 0x18
  | .sec => 0x38
  | .cli => 0x58
  | .sei => 0x78
  | .cld => 0xD8
  | .sed => 0xF8
  | .clv => 0xB8
  | .brk => 0x00
  | .rti => 0x40
  | .nop => 0xEA
  | .tax => 0xAA
  | .tay => 0xA8
  | .txa => 0x8A
  | .tya => 0x98
  | .tsx => 0xBA
  | .txs => 0x9A

/-- The operation of an instruction. -/
def Instr.mnemonic : Instr → Mnemonic
  | .ldaImm _ | .ldaZp _ | .ldaZpx _ | .ldaAbs _ | .ldaAbx _ | .ldaAby _ | .ldaIzx _ | .ldaIzy _ => .lda
  | .ldxImm _ | .ldxZp _ | .ldxZpy _ | .ldxAbs _ | .ldxAby _ => .ldx
  | .ldyImm _ | .ldyZp _ | .ldyZpx _ | .ldyAbs _ | .ldyAbx _ => .ldy
  | .staZp _ | .staZpx _ | .staAbs _ | .staAbx _ | .staAby _ | .staIzx _ | .staIzy _ => .sta
  | .stxZp _ | .stxZpy _ | .stxAbs _ => .stx
  | .styZp _ | .styZpx _ | .styAbs _ => .sty
  | .adcImm _ | .adcZp _ | .adcZpx _ | .adcAbs _ | .adcAbx _ | .adcAby _ | .adcIzx _ | .adcIzy _ => .adc
  | .sbcImm _ | .sbcZp _ | .sbcZpx _ | .sbcAbs _ | .sbcAbx _ | .sbcAby _ | .sbcIzx _ | .sbcIzy _ => .sbc
  | .incZp _ | .incZpx _ | .incAbs _ | .incAbx _ => .inc
  | .decZp _ | .decZpx _ | .decAbs _ | .decAbx _ => .dec
  | .inx => .inx
  | .iny => .iny
  | .dex => .dex
  | .dey => .dey
  | .andImm _ | .andZp _ | .andZpx _ | .andAbs _ | .andAbx _ | .andAby _ | .andIzx _ | .andIzy _ => .and
  | .oraImm _ | .oraZp _ | .oraZpx _ | .oraAbs _ | .oraAbx _ | .oraAby _ | .oraIzx _ | .oraIzy _ => .ora
  | .eorImm _ | .eorZp _ | .eorZpx _ | .eorAbs _ | .eorAbx _ | .eorAby _ | .eorIzx _ | .eorIzy _ => .eor
  | .bitZp _ | .bitAbs _ => .bit
  | .aslAcc | .aslZp _ | .aslZpx _ | .aslAbs _ | .aslAbx _ => .asl
  | .lsrAcc | .lsrZp _ | .lsrZpx _ | .lsrAbs _ | .lsrAbx _ => .lsr
  | .rolAcc | .rolZp _ | .rolZpx _ | .rolAbs _ | .rolAbx _ => .rol
  | .rorAcc | .rorZp _ | .rorZpx _ | .rorAbs _ | .rorAbx _ => .ror
  | .cmpImm _ | .cmpZp _ | .cmpZpx _ | .cmpAbs _ | .cmpAbx _ | .cmpAby _ | .cmpIzx _ | .cmpIzy _ => .cmp
  | .cpxImm _ | .cpxZp _ | .cpxAbs _ => .cpx
  | .cpyImm _ | .cpyZp _ | .cpyAbs _ => .cpy
  | .bcc _ => .bcc
  | .bcs _ => .bcs
  | .beq _ => .beq
  | .bne _ => .bne
  | .bmi _ => .bmi
  | .bpl _ => .bpl
  | .bvc _ => .bvc
  | .bvs _ => .bvs
  | .jmpAbs _ | .jmpInd _ => .jmp
  | .jsr _ => .jsr
  | .rts => .rts
  | .pha => .pha
  | .pla => .pla
  | .php => .php
  | .plp => .plp
  | .clc => .clc
  | .sec => .sec
  | .cli => .cli
  | .sei => .sei
  | .cld => .cld
  | .sed => .sed
  | .clv => .clv
  | .brk => .brk
  | .rti => .rti
  | .nop => .nop
  | .tax => .tax
  | .tay => .tay
  | .txa => .txa
  | .tya => .tya
  | .tsx => .tsx
  | .txs => .txs

/-- The resolved operand of an instruction (R94): its category and its operand bytes. -/
def Instr.operand : Instr → ResolvedOperand
  | .ldaImm v => .immediate v
  | .ldaZp z => .zeroPage z
  | .ldaZpx z => .zeroPageX z
  | .ldaAbs w => .absolute w
  | .ldaAbx w => .absoluteX w
  | .ldaAby w => .absoluteY w
  | .ldaIzx z => .indirectX z
  | .ldaIzy z => .indirectY z
  | .ldxImm v => .immediate v
  | .ldxZp z => .zeroPage z
  | .ldxZpy z => .zeroPageY z
  | .ldxAbs w => .absolute w
  | .ldxAby w => .absoluteY w
  | .ldyImm v => .immediate v
  | .ldyZp z => .zeroPage z
  | .ldyZpx z => .zeroPageX z
  | .ldyAbs w => .absolute w
  | .ldyAbx w => .absoluteX w
  | .staZp z => .zeroPage z
  | .staZpx z => .zeroPageX z
  | .staAbs w => .absolute w
  | .staAbx w => .absoluteX w
  | .staAby w => .absoluteY w
  | .staIzx z => .indirectX z
  | .staIzy z => .indirectY z
  | .stxZp z => .zeroPage z
  | .stxZpy z => .zeroPageY z
  | .stxAbs w => .absolute w
  | .styZp z => .zeroPage z
  | .styZpx z => .zeroPageX z
  | .styAbs w => .absolute w
  | .adcImm v => .immediate v
  | .adcZp z => .zeroPage z
  | .adcZpx z => .zeroPageX z
  | .adcAbs w => .absolute w
  | .adcAbx w => .absoluteX w
  | .adcAby w => .absoluteY w
  | .adcIzx z => .indirectX z
  | .adcIzy z => .indirectY z
  | .sbcImm v => .immediate v
  | .sbcZp z => .zeroPage z
  | .sbcZpx z => .zeroPageX z
  | .sbcAbs w => .absolute w
  | .sbcAbx w => .absoluteX w
  | .sbcAby w => .absoluteY w
  | .sbcIzx z => .indirectX z
  | .sbcIzy z => .indirectY z
  | .incZp z => .zeroPage z
  | .incZpx z => .zeroPageX z
  | .incAbs w => .absolute w
  | .incAbx w => .absoluteX w
  | .decZp z => .zeroPage z
  | .decZpx z => .zeroPageX z
  | .decAbs w => .absolute w
  | .decAbx w => .absoluteX w
  | .inx => .implied
  | .iny => .implied
  | .dex => .implied
  | .dey => .implied
  | .andImm v => .immediate v
  | .andZp z => .zeroPage z
  | .andZpx z => .zeroPageX z
  | .andAbs w => .absolute w
  | .andAbx w => .absoluteX w
  | .andAby w => .absoluteY w
  | .andIzx z => .indirectX z
  | .andIzy z => .indirectY z
  | .oraImm v => .immediate v
  | .oraZp z => .zeroPage z
  | .oraZpx z => .zeroPageX z
  | .oraAbs w => .absolute w
  | .oraAbx w => .absoluteX w
  | .oraAby w => .absoluteY w
  | .oraIzx z => .indirectX z
  | .oraIzy z => .indirectY z
  | .eorImm v => .immediate v
  | .eorZp z => .zeroPage z
  | .eorZpx z => .zeroPageX z
  | .eorAbs w => .absolute w
  | .eorAbx w => .absoluteX w
  | .eorAby w => .absoluteY w
  | .eorIzx z => .indirectX z
  | .eorIzy z => .indirectY z
  | .bitZp z => .zeroPage z
  | .bitAbs w => .absolute w
  | .aslAcc => .accumulator
  | .aslZp z => .zeroPage z
  | .aslZpx z => .zeroPageX z
  | .aslAbs w => .absolute w
  | .aslAbx w => .absoluteX w
  | .lsrAcc => .accumulator
  | .lsrZp z => .zeroPage z
  | .lsrZpx z => .zeroPageX z
  | .lsrAbs w => .absolute w
  | .lsrAbx w => .absoluteX w
  | .rolAcc => .accumulator
  | .rolZp z => .zeroPage z
  | .rolZpx z => .zeroPageX z
  | .rolAbs w => .absolute w
  | .rolAbx w => .absoluteX w
  | .rorAcc => .accumulator
  | .rorZp z => .zeroPage z
  | .rorZpx z => .zeroPageX z
  | .rorAbs w => .absolute w
  | .rorAbx w => .absoluteX w
  | .cmpImm v => .immediate v
  | .cmpZp z => .zeroPage z
  | .cmpZpx z => .zeroPageX z
  | .cmpAbs w => .absolute w
  | .cmpAbx w => .absoluteX w
  | .cmpAby w => .absoluteY w
  | .cmpIzx z => .indirectX z
  | .cmpIzy z => .indirectY z
  | .cpxImm v => .immediate v
  | .cpxZp z => .zeroPage z
  | .cpxAbs w => .absolute w
  | .cpyImm v => .immediate v
  | .cpyZp z => .zeroPage z
  | .cpyAbs w => .absolute w
  | .bcc off => .relative off
  | .bcs off => .relative off
  | .beq off => .relative off
  | .bne off => .relative off
  | .bmi off => .relative off
  | .bpl off => .relative off
  | .bvc off => .relative off
  | .bvs off => .relative off
  | .jmpAbs w => .absolute w
  | .jmpInd w => .indirect w
  | .jsr w => .absolute w
  | .rts => .implied
  | .pha => .implied
  | .pla => .implied
  | .php => .implied
  | .plp => .implied
  | .clc => .implied
  | .sec => .implied
  | .cli => .implied
  | .sei => .implied
  | .cld => .implied
  | .sed => .implied
  | .clv => .implied
  | .brk => .implied
  | .rti => .implied
  | .nop => .implied
  | .tax => .implied
  | .tay => .implied
  | .txa => .implied
  | .tya => .implied
  | .tsx => .implied
  | .txs => .implied

/-- The bytes of an instruction in ascending address order (R91): the opcode, then the operand's bytes. -/
def encode (i : Instr) : List Byte :=
  i.opcode :: i.operand.bytes

end Sys2Proof
end

