-- ==== Sys2Proof/Machine/State.lean ====
section
/-! DEFINITION. The state of the machine: every item of spec/10_state.md (R20 to R33), as plain data, with its value after
reset (R36), and the reasons a step can stop. Beside the spec's state stand the parameters of R6 (`cfg`, log 1) and the
model's own outputs (`obs`, log 9). -/

namespace Sys2Proof.Machine

/-- The flags of `P` (R25) that have storage. Bit 5, Unused, is "always 1 regardless of what is written" (R26) and is not
stored (U18, log 4); the byte is `Status.toByte`. -/
structure Status where
  /-- Carry, bit 0. -/
  c : Bool
  /-- Zero, bit 1. -/
  z : Bool
  /-- InterruptDisable, bit 2. -/
  i : Bool
  /-- Decimal, bit 3. -/
  d : Bool
  /-- Break, bit 4: written by no rule of the core (R27). -/
  b : Bool
  /-- Overflow, bit 6. -/
  v : Bool
  /-- Negative, bit 7. -/
  n : Bool
  deriving DecidableEq, Repr

/-- The reasons of `Halted` (R29). No rule produces the first three (C6, log 13). -/
inductive HaltReason
  | reset
  | irq
  | nmi
  | brk
  | illegalOpcode
  deriving DecidableEq, Repr

/-- `RunState` (R29). -/
inductive RunState
  | ready
  | running
  | halted (reason : HaltReason)
  deriving DecidableEq, Repr

/-- The two interrupt kinds (R262). -/
inductive InterruptKind
  | nmi
  | irq
  deriving DecidableEq, Repr

/-- The memory array (R33) as the list of cells that differ from `Memory.unlisted`, addresses strictly rising. -/
abbrev Memory := List Host.Cell

/-- What a cell the list does not name holds. The spec gives no power-on contents (D23): DESIGN CHOICE, log 2. Every
65536-byte `InitialMemory` is some `Memory`. -/
def Memory.unlisted : Byte := 0x00

/-- The components of the scoped platform that have the bus capability interface (R64, D17). -/
inductive Component
  | cpu
  | memory
  deriving DecidableEq, Repr

/-- An entry of the component registry (R32): a name, its handle, and the guard of R70, set while a transaction is in
flight against it (log 7). -/
structure Registration where
  name : String
  handle : Component
  inFlight : Bool
  deriving DecidableEq, Repr

/-- `operation` of a bus transaction (R63); `none` is the invalid direction. -/
inductive BusOperation
  | read
  | write
  | none
  deriving DecidableEq, Repr

/-- A bus transaction (R63), less its identifier, which no rule reads (D29, log 11). -/
structure BusTransaction where
  address : Word
  data : Byte
  operation : BusOperation
  deriving DecidableEq, Repr

/-- What a handler returns to the step (R110): was a page crossed by an indexed address, was a branch taken, did its
target lie on another page. -/
structure ExecOutcome where
  crossed : Bool
  taken : Bool
  targetCrossed : Bool
  deriving DecidableEq, Repr

/-- The triple of an instruction that neither crosses a page nor branches. -/
def ExecOutcome.plain : ExecOutcome where
  crossed := false
  taken := false
  targetCrossed := false

/-- `StepResult` (R288). Of the conditions of R270 only IllegalOpcode ends a step in a next state; the bus errors are
`Fault.bus`. -/
inductive StepResult
  | ignored
  | serviced (kind : InterruptKind)
  | executed (cycles : Nat)
  | illegalOpcode (opcode : Byte)
  deriving DecidableEq, Repr

/-- The per-instruction observability event (R285). -/
structure DebugEvent where
  programCounter : Word
  opcode : Byte
  cycles : Nat
  operand : ResolvedOperand
  deriving DecidableEq, Repr

/-- The model's outputs of the last step, read by no rule (log 9): its result, its debug event, the transactions the
CPU's `respond` hook observed in order, and the triple its handler returned. -/
structure Observed where
  result : Option StepResult
  event : Option DebugEvent
  trace : List BusTransaction
  outcome : ExecOutcome
  deriving DecidableEq, Repr

/-- No output yet. -/
def Observed.empty : Observed where
  result := none
  event := none
  trace := []
  outcome := ExecOutcome.plain

/-- The whole state of the machine. -/
structure State where
  /-- A, the accumulator (R20). -/
  a : Byte
  /-- X (R21). -/
  x : Byte
  /-- Y (R22). -/
  y : Byte
  /-- S, the stack pointer (R23). -/
  sp : Byte
  /-- P (R25). -/
  p : Status
  /-- PC (R24). -/
  pc : Word
  /-- RunState (R29). -/
  run : RunState
  /-- nmi_pending (R30). -/
  nmiPending : Bool
  /-- irq_pending (R30). -/
  irqPending : Bool
  /-- Mem (R33). -/
  mem : Memory
  /-- The component registry (R32). -/
  registry : List Registration
  /-- debug_enabled (R31). -/
  debugEnabled : Bool
  /-- The parameters of R6; no step writes them (log 1). -/
  cfg : Config
  /-- The model's outputs (log 9). -/
  obs : Observed
  deriving DecidableEq, Repr

/-- The typed bus errors of R68 and R270. What a condition carries is R270's table; where it says "not stated" the model's condition carries
nothing (DESIGN CHOICE, log 15). -/
inductive BusError
  /-- `execute` was given a destination that is not registered (R66). -/
  | componentNotFound (name : String)
  /-- The transaction's operation is None (R66). What it carries is not stated (R270): DESIGN CHOICE nothing, log 15. -/
  | invalidTransaction
  /-- The destination's guard is taken (R68, R70). What it carries is not stated (R270): DESIGN CHOICE nothing, not the destination's name,
  log 15. -/
  | lockFailed
  /-- `register` was given a name that is registered (R65). -/
  | duplicateComponent (name : String)
  deriving DecidableEq, Repr

/-- Why the machine stops outside every `RunState` (R272). -/
inductive Fault
  /-- A bus error. Raised by `busExecute` in a step or a reset, and by `registerComponent` at set-up. `atState` is the state at the
  failing access: "every write before it … stays, nothing after it happens" (R272). Safe: no later step is defined (log 6). -/
  | bus (error : BusError) (atState : State)
  deriving DecidableEq, Repr

/-- Why the model gives no meaning. -/
inductive Refusal
  /-- An instruction with no meaning yet; raised by no arm of `exec`. Safe. -/
  | notModelled (mnemonic : String)
  /-- A transaction whose destination is the CPU component, raised by `Component.process`: "This spec gives it no meaning: a model
  refuses such a transaction" (R69). Safe: no rule of the core sends one (log 8). -/
  | transactionToCpu
  deriving DecidableEq, Repr

/-- The registry of the scoped platform (R32, D17). -/
def scopedRegistry : List Registration :=
  [⟨"CPU", .cpu, false⟩, ⟨"Memory", .memory, false⟩]

/-- P at power-on and after reset, "Unused-only" (R35): every stored flag 0, the byte 0x20. -/
def Status.reset : Status where
  c := false
  z := false
  i := false
  d := false
  b := false
  v := false
  n := false

/-- The machine right after reset (R36, R300). Nothing is listed in memory (log 2), so the reset vector at 0xFFFC reads 0x0000 and PC is
0x0000 (log 3). -/
def State.reset : State where
  a := 0x00
  x := 0x00
  y := 0x00
  sp := 0xFD
  p := Status.reset
  pc := 0x0000
  run := .ready
  nmiPending := false
  irqPending := false
  mem := []
  registry := scopedRegistry
  debugEnabled := false
  cfg := Config.default
  obs := Observed.empty

end Sys2Proof.Machine
end

