-- ==== Sys2Proof/Machine/Registers.lean ====
section
/-! DEFINITION. One update for each field of `State`; every meaning writes state through these. The lemmas of each update stand in
Sys2Proof/Laws/State.lean. -/

namespace Sys2Proof.Machine

/-- Write `a` (R20). -/
def State.setA (s : State) (v : Byte) : State := { s with a := v }

/-- Write `x` (R21). -/
def State.setX (s : State) (v : Byte) : State := { s with x := v }

/-- Write `y` (R22). -/
def State.setY (s : State) (v : Byte) : State := { s with y := v }

/-- Write `sp` (R23). -/
def State.setSp (s : State) (v : Byte) : State := { s with sp := v }

/-- Write `p` (R25). -/
def State.setP (s : State) (v : Status) : State := { s with p := v }

/-- Write `pc` (R24). -/
def State.setPc (s : State) (v : Word) : State := { s with pc := v }

/-- Write `run` (R29). -/
def State.setRun (s : State) (v : RunState) : State := { s with run := v }

/-- Write `nmiPending` (R30). -/
def State.setNmiPending (s : State) (v : Bool) : State := { s with nmiPending := v }

/-- Write `irqPending` (R30). -/
def State.setIrqPending (s : State) (v : Bool) : State := { s with irqPending := v }

/-- Write `mem` (R33). -/
def State.setMem (s : State) (v : Memory) : State := { s with mem := v }

/-- Write `registry` (R32). -/
def State.setRegistry (s : State) (v : List Registration) : State := { s with registry := v }

/-- Write `debugEnabled` (R31). -/
def State.setDebugEnabled (s : State) (v : Bool) : State := { s with debugEnabled := v }

/-- Write `cfg` (R6). -/
def State.setCfg (s : State) (v : Config) : State := { s with cfg := v }

/-- Write `obs` (log 9). -/
def State.setObs (s : State) (v : Observed) : State := { s with obs := v }

/-- The 8-bit registers an instruction names (R20 to R23). -/
inductive Register
  | a
  | x
  | y
  | s
  deriving DecidableEq, Repr

/-- Read a register (R8). -/
def State.reg (s : State) : Register → Byte
  | .a => s.a
  | .x => s.x
  | .y => s.y
  | .s => s.sp

/-- Write a register (R8). -/
def State.setReg (s : State) (r : Register) (v : Byte) : State :=
  match r with
  | .a => s.setA v
  | .x => s.setX v
  | .y => s.setY v
  | .s => s.setSp v

/-- The latch of an interrupt kind (R30). -/
def State.pending (s : State) : InterruptKind → Bool
  | .nmi => s.nmiPending
  | .irq => s.irqPending

/-- Write the latch of an interrupt kind (R30). -/
def State.setPending (s : State) (k : InterruptKind) (v : Bool) : State :=
  match k with
  | .nmi => s.setNmiPending v
  | .irq => s.setIrqPending v

/-- `halt(reason)` (R261): the run state moves, everything written before stays. -/
def State.halt (s : State) (r : HaltReason) : State := s.setRun (.halted r)

/-- The state with the model's outputs dropped: what the spec calls the machine's state, and the parameters. Two states agree on
everything but `obs` exactly when these are equal. -/
def State.arch (s : State) : State := s.setObs Observed.empty

/-- A step starts with no outputs. -/
def State.clearObs (s : State) : State := s.setObs Observed.empty

/-- The CPU's `respond` hook: "so it can observe the completed transaction (e.g. for tracing)" (R67). -/
def State.observe (s : State) (t : BusTransaction) : State :=
  s.setObs ⟨s.obs.result, s.obs.event, s.obs.trace ++ [t], s.obs.outcome⟩

/-- The handler's triple (R110). -/
def State.setOutcome (s : State) (o : ExecOutcome) : State :=
  s.setObs ⟨s.obs.result, s.obs.event, s.obs.trace, o⟩

/-- The step's result (R288). -/
def State.setResult (s : State) (r : StepResult) : State :=
  s.setObs ⟨some r, s.obs.event, s.obs.trace, s.obs.outcome⟩

/-- The debug event the step emits, or none (R285). -/
def State.setEvent (s : State) (e : Option DebugEvent) : State :=
  s.setObs ⟨s.obs.result, e, s.obs.trace, s.obs.outcome⟩

end Sys2Proof.Machine
end

