-- ==== Sys2Proof/Machine/Flags.lean ====
section
/-! DEFINITION. The status byte (spec/10_state.md R25 to R28) and every flag computation that is not an arithmetic result:
SetZN (spec/40_step_and_addressing.md R125), the compare (spec/46_compare.md R193), BIT (spec/44_logical.md R173) and the
restore of PLP and RTI (spec/48_stack_flag.md R223). -/

namespace Sys2Proof.Machine

/-- One flag at its mask (R25). -/
def flagMask (f : Bool) (mask : Byte) : Byte := if f then mask else 0x00

/-- P as a byte, with the bit positions of R25; bit 5 is always 1 (R26). -/
def Status.toByte (p : Status) : Byte :=
  flagMask p.c 0x01 ||| flagMask p.z 0x02 ||| flagMask p.i 0x04 ||| flagMask p.d 0x08 ||| flagMask p.b 0x10 ||| 0x20 |||
    flagMask p.v 0x40 ||| flagMask p.n 0x80

/-- The flags a byte gives; bit 5 is discarded (R26). -/
def Status.ofByte (v : Byte) : Status where
  c := v.getLsbD 0
  z := v.getLsbD 1
  i := v.getLsbD 2
  d := v.getLsbD 3
  b := v.getLsbD 4
  v := v.getLsbD 6
  n := v.getLsbD 7

/-- `P <- (v AND 0xCF) OR (P AND 0x30)` of PLP and RTI (R223, R241): all flags but Break and Unused come from the byte. -/
def Status.restore (p : Status) (v : Byte) : Status where
  c := v.getLsbD 0
  z := v.getLsbD 1
  i := v.getLsbD 2
  d := v.getLsbD 3
  b := p.b
  v := v.getLsbD 6
  n := v.getLsbD 7

/-- `SetZN(v)` on P (R125). -/
def Status.setZN (p : Status) (v : Byte) : Status := { p with z := decide (v = 0x00), n := v.msb }

/-- `SetZN(v)` on the machine (R125). -/
def State.setZN (s : State) (v : Byte) : State := s.setP (s.p.setZN v)

/-- `Compare(reg, m)` (R193): C is the unsigned comparison, Z equality, N bit 7 of the wrapped difference. -/
def Status.compare (p : Status) (reg m : Byte) : Status :=
  { p with c := decide (m.toNat ≤ reg.toNat), z := decide (reg = m), n := (reg - m).msb }

/-- BIT's Z (R173): is `A AND m` zero. -/
def Status.bitZ (p : Status) (a m : Byte) : Status := { p with z := decide (a &&& m = 0x00) }

/-- BIT's N and V, bits 7 and 6 of the memory byte (R173). -/
def Status.bitNV (p : Status) (m : Byte) : Status := { p with n := m.getLsbD 7, v := m.getLsbD 6 }

end Sys2Proof.Machine
end

