-- ==== Sys2Proof/Machine/Alu.lean ====
section
/-! DEFINITION. The arithmetic of ADC and SBC, binary and decimal (spec/42_arithmetic.md R152 to R155), and the shift functions
(spec/45_shift_rotate.md R180 to R183). Sums and differences are taken over the integers and narrowed at the end (R7). -/

namespace Sys2Proof.Machine

/-- What a binary addition or subtraction returns: result, carry out, overflow (R152). -/
structure BinaryResult where
  r : Byte
  carry : Bool
  overflow : Bool
  deriving DecidableEq, Repr

/-- `AddBinary(a, m, c)` (R152). -/
def addBinary (a m : Byte) (c : Bool) : BinaryResult :=
  let sum := a.toNat + m.toNat + c.toNat
  let r := BitVec.ofNat 8 sum
  { r := r, carry := decide (sum > 255), overflow := a.msb == m.msb && r.msb != a.msb }

/-- `SubBinary(a, m, c)` (R153): `AddBinary(a, m XOR 0xFF, c)`, so the carry is an inverted borrow. -/
def subBinary (a m : Byte) (c : Bool) : BinaryResult := addBinary a (m ^^^ 0xFF) c

/-- Bits 7..4 of a byte, as a number. -/
def highNibble (b : Byte) : Nat := b.toNat / 16

/-- Bits 3..0 of a byte, as a number. -/
def lowNibble (b : Byte) : Nat := b.toNat % 16

/-- "A byte is valid BCD when both of its nibbles are ≤ 9" (R154). -/
def validBcd (b : Byte) : Bool := decide (highNibble b ≤ 9) && decide (lowNibble b ≤ 9)

/-- `dec(b)` (R154). -/
def decOf (b : Byte) : Nat := 10 * highNibble b + lowNibble b

/-- `bcd(n)` for n up to 99 (R154). -/
def bcdOf (n : Nat) : Byte := BitVec.ofNat 8 (16 * (n / 10) + n % 10)

/-- A decimal result whose Z and N are what SetZN(r) would give (R154). -/
def decimalResult (r : Byte) (carry : Bool) : DecimalResult where
  r := r
  carry := carry
  z := decide (r = 0x00)
  n := r.msb

/-- `AddDecimal(a, m, c)` (R154); on operands that are not valid BCD, the uninterpreted `DecimalInvalid`. -/
def addDecimal (a m : Byte) (c : Bool) : DecimalResult :=
  if validBcd a && validBcd m then
    let t := decOf a + decOf m + c.toNat
    decimalResult (bcdOf (t % 100)) (decide (t > 99))
  else Config.decimalInvalid .add a m c

/-- `SubDecimal(a, m, c)` (R155); on operands that are not valid BCD, the uninterpreted `DecimalInvalid`. -/
def subDecimal (a m : Byte) (c : Bool) : DecimalResult :=
  if validBcd a && validBcd m then
    let t : Int := (decOf a : Int) - decOf m - (1 - (c.toNat : Int))
    decimalResult (bcdOf (t % 100).toNat) (decide (t ≥ 0))
  else Config.decimalInvalid .sub a m c

/-- The nibble procedure of R154 that the source describes: result and carry. -/
def addDecimalByNibbles (a m : Byte) (c : Bool) : Byte × Bool :=
  let lo := lowNibble a + lowNibble m + c.toNat
  let lo' := if lo > 9 then lo + 6 else lo
  let hi := highNibble a + highNibble m + (if lo' > 15 then 1 else 0)
  let hi' := if hi > 9 then hi + 6 else hi
  (BitVec.ofNat 8 (16 * (hi' % 16) + lo' % 16), decide (hi' > 15))

/-- The nibble form of R155: result and carry. -/
def subDecimalByNibbles (a m : Byte) (c : Bool) : Byte × Bool :=
  let lo : Int := (lowNibble a : Int) - lowNibble m - (1 - (c.toNat : Int))
  let borrow : Int := if lo < 0 then 1 else 0
  let lo' := if lo < 0 then lo - 6 else lo
  let hi : Int := (highNibble a : Int) - highNibble m - borrow
  let hi' := if hi < 0 then hi - 6 else hi
  (BitVec.ofNat 8 (16 * (hi' % 16).toNat + (lo' % 16).toNat), decide (¬ hi < 0))

/-- The carry bit as a byte. -/
def carryByte (c : Bool) : Byte := if c then 0x01 else 0x00

/-- ASL's `f` (R180): the result and the bit shifted out; bit 0 is filled with 0. -/
def aslByte (v : Byte) (_ : Bool) : Byte × Bool := (v <<< 1, v.getLsbD 7)

/-- LSR's `f` (R181): bit 7 is filled with 0. -/
def lsrByte (v : Byte) (_ : Bool) : Byte × Bool := (v >>> 1, v.getLsbD 0)

/-- ROL's `f` (R182): the prior carry goes into bit 0. -/
def rolByte (v : Byte) (cin : Bool) : Byte × Bool := (v <<< 1 ||| carryByte cin, v.getLsbD 7)

/-- ROR's `f` (R183): the prior carry goes into bit 7. -/
def rorByte (v : Byte) (cin : Bool) : Byte × Bool := (v >>> 1 ||| carryByte cin <<< 7, v.getLsbD 0)

/-- C, V, Z and N of a binary ADC or SBC (R150, R151). -/
def Status.binary (p : Status) (res : BinaryResult) : Status :=
  { p.setZN res.r with c := res.carry, v := res.overflow }

/-- C, Z and N of a decimal ADC or SBC; "V is left as it was" (R154, C7). -/
def Status.decimal (p : Status) (res : DecimalResult) : Status :=
  { p with c := res.carry, z := res.z, n := res.n }

/-- C, Z and N of a shift or rotate (spec/45_shift_rotate.md, shared frame). -/
def Status.shifted (p : Status) (r : Byte) (c : Bool) : Status := { p.setZN r with c := c }

end Sys2Proof.Machine
end

