-- ==== Sys2Proof/Machine/Memory.lean ====
section
/-! DEFINITION. The memory array of spec/10_state.md R33: one read, one write and the canonical form. Keys are the unsigned
values of 16-bit addresses. -/

namespace Sys2Proof.Machine

/-- The cell with key `k`. -/
def Memory.cell : Memory → Nat → Byte
  | [], _ => Memory.unlisted
  | (k', v) :: rest, k => if k' = k then v else Memory.cell rest k

/-- `Mem[addr]` (R60, R67). -/
def Memory.read (m : Memory) (addr : Word) : Byte := m.cell addr.toNat

/-- Put a cell before a list whose keys are larger; a cell that holds what an unlisted one reads as is left out. -/
def Memory.consCell (k : Nat) (v : Byte) (rest : Memory) : Memory :=
  if v = Memory.unlisted then rest else (k, v) :: rest

/-- Set the cell with key `k`, keeping the keys rising. -/
def Memory.setCell : Memory → Nat → Byte → Memory
  | [], k, v => Memory.consCell k v []
  | (k', v') :: rest, k, v =>
    if k < k' then Memory.consCell k v ((k', v') :: rest)
    else if k' = k then Memory.consCell k v rest
    else (k', v') :: Memory.setCell rest k v

/-- `Mem[addr] <- v` (R61, R67). -/
def Memory.write (m : Memory) (addr : Word) (v : Byte) : Memory := m.setCell addr.toNat v

/-- The keys rise strictly from `from` on, lie below 65536, and no cell holds the unlisted value. -/
def Memory.wfFrom : Nat → Memory → Bool
  | _, [] => true
  | lo, (k, v) :: rest =>
    decide (lo ≤ k) && decide (k < 65536) && decide (v ≠ Memory.unlisted) && Memory.wfFrom (k + 1) rest

/-- The canonical form of memory: equal contents are equal lists. -/
def Memory.wf (m : Memory) : Bool := Memory.wfFrom 0 m

end Sys2Proof.Machine
end

