-- ==== Sys2Proof/Machine/Bus.lean ====
section
/-! DEFINITION. The bus transaction protocol and the arbitration component (spec/20_memory.md R63 to R70), and the CPU's two memory
primitives over it (R60, R61). -/

namespace Sys2Proof.Machine

/-- Go on with the value of a step that has one; a fault or a refusal ends the step at once (R270, R272). -/
def andThen {α β : Type} (r : Host.Outcome α Fault Refusal) (k : α → Host.Outcome β Fault Refusal) :
    Host.Outcome β Fault Refusal :=
  match r with
  | .next v => k v
  | .fault f => .fault f
  | .refused f => .refused f

/-- The registry entry of a name (R32). -/
def findComponent : List Registration → String → Option Registration
  | [], _ => none
  | r :: rs, name => if r.name = name then some r else findComponent rs name

/-- `process(t)` (R64): "perform the operation in place". Memory answers by R67; an invalid direction is a bus error wherever the check is
made (R66); a transaction to the CPU is refused (R69, log 8). -/
def Component.process (c : Component) (t : BusTransaction) (s : State) :
    Host.Outcome (BusTransaction × State) Fault Refusal :=
  match c, t.operation with
  | .memory, .read => .next (⟨t.address, s.mem.read t.address, .read⟩, s)
  | .memory, .write => .next (t, s.setMem (s.mem.write t.address t.data))
  | .memory, .none => .fault (.bus .invalidTransaction s)
  | .cpu, _ => .refused .transactionToCpu

/-- `begin(t)` (R64): the initiator-side hook, which has no architectural effect and which `busExecute` does not call (C11). -/
def Component.beginHook (_ : Component) (t : BusTransaction) (s : State) : BusTransaction × State := (t, s)

/-- `respond(t)` (R64): the completion hook of the initiator. The CPU's "does nothing to registers, flags, run state or memory; it exists so it
can observe the completed transaction" (R67); the spec gives Memory's no effect. -/
def Component.respond (c : Component) (t : BusTransaction) (s : State) : State :=
  match c with
  | .cpu => s.observe t
  | .memory => s

/-- `respond` of a registered initiator; "An unregistered `from` is not an error: `respond` is simply skipped" (R66). -/
def respondTo (initiator : String) (t : BusTransaction) (s : State) : State :=
  match findComponent s.registry initiator with
  | none => s
  | some r => r.handle.respond t s

/-- `execute(from, to, transaction)` of the arbitration component (R66), synchronous and atomic (R57, R70). The guard of R70 is taken for
the whole call, so it is free again when the call ends (log 7). -/
def busExecute (initiator destination : String) (t : BusTransaction) (s : State) :
    Host.Outcome (BusTransaction × State) Fault Refusal :=
  match findComponent s.registry destination with
  | none => .fault (.bus (.componentNotFound destination) s)
  | some r =>
    if t.operation = .none then .fault (.bus .invalidTransaction s)
    else if r.inFlight then .fault (.bus .lockFailed s)
    else andThen (r.handle.process t s) fun (t', s') => .next (t', respondTo initiator t' s')

/-- `register(name, handle)` (R65): a name that is registered is an error and changes nothing. -/
def registerComponent (name : String) (handle : Component) (s : State) : Host.Outcome State Fault Refusal :=
  match findComponent s.registry name with
  | some _ => .fault (.bus (.duplicateComponent name) s)
  | none => .next (s.setRegistry (s.registry ++ [⟨name, handle, false⟩]))

/-- `MemRead(addr, 1)` (R60). -/
def memRead (addr : Word) (s : State) : Host.Outcome (Byte × State) Fault Refusal :=
  andThen (busExecute "CPU" "Memory" ⟨addr, 0x00, .read⟩ s) fun (t, s') => .next (t.data, s')

/-- `MemWrite(addr, 1, v)` (R61). -/
def memWrite (addr : Word) (v : Byte) (s : State) : Host.Outcome State Fault Refusal :=
  andThen (busExecute "CPU" "Memory" ⟨addr, v, .write⟩ s) fun (_, s') => .next s'

end Sys2Proof.Machine
end

