-- ==== Sys2Proof/Machine/Ops.lean ====
section
/-! DEFINITION. The operations the meanings share: 16-bit reads (spec/20_memory.md R62), the stack (spec/40_step_and_addressing.md
R126 to R129), taking an interrupt (spec/60_exceptions.md R265), the BRK trap (spec/49_system_transfer.md R240), the return from
interrupt (R241) and the illegal opcode (spec/60_exceptions.md R271). -/

namespace Sys2Proof.Machine

/-- End of a meaning: the handler's triple and the next state (R110). -/
def complete (o : ExecOutcome) (s : State) : Host.Outcome State Fault Refusal := .next (s.setOutcome o)

/-- `Read16(addr)` (R62): low byte at `addr`, then high byte at `addr +16 1`. -/
def read16 (addr : Word) (s : State) : Host.Outcome (Word × State) Fault Refusal :=
  andThen (memRead addr s) fun (low, s) =>
  andThen (memRead (addr + 1) s) fun (high, s) =>
  .next (ofBytes high low, s)

/-- The two-byte pointer of IndirectX and IndirectY (R122, R123): the second address wraps inside the zero page. -/
def readPointer (z : Byte) (s : State) : Host.Outcome (Word × State) Fault Refusal :=
  andThen (memRead (zext16 z) s) fun (low, s) =>
  andThen (memRead (zext16 (z + 1)) s) fun (high, s) =>
  .next (ofBytes high low, s)

/-- The address of a stack slot, `0x0100 | S` (R23, R52). -/
def stackAddress (sp : Byte) : Word := 0x0100 ||| zext16 sp

/-- `Push8(v)` (R126): write, then decrement S modulo 256. -/
def push8 (v : Byte) (s : State) : Host.Outcome State Fault Refusal :=
  andThen (memWrite (stackAddress s.sp) v s) fun s => .next (s.setSp (s.sp - 1))

/-- `Pull8()` (R127): increment S modulo 256, then read. -/
def pull8 (s : State) : Host.Outcome (Byte × State) Fault Refusal :=
  memRead (stackAddress (s.sp + 1)) (s.setSp (s.sp + 1))

/-- `Push16(w)` (R128): high byte first. -/
def push16 (w : Word) (s : State) : Host.Outcome State Fault Refusal :=
  andThen (push8 (hiByte w) s) fun s => push8 (loByte w) s

/-- `Pull16()` (R129): low byte first. -/
def pull16 (s : State) : Host.Outcome (Word × State) Fault Refusal :=
  andThen (pull8 s) fun (low, s) =>
  andThen (pull8 s) fun (high, s) =>
  .next (ofBytes high low, s)

/-- The three pushes of an interrupt entry or a BRK: a 16-bit address, high byte first, then a status byte (R240, R265). -/
def pushFrame (ret : Word) (status : Byte) (s : State) : Host.Outcome State Fault Refusal :=
  andThen (push16 ret s) fun s => push8 status s

/-- The vector of an interrupt kind (R53). -/
def InterruptKind.vector : InterruptKind → Word
  | .nmi => 0xFFFA
  | .irq => 0xFFFE

/-- The reset vector (R53). -/
def resetVector : Word := 0xFFFC

/-- P on interrupt entry: I is set if `INT_ENTRY_SETS_I` (R265, D9); no other flag changes. -/
def Status.onEntry (p : Status) (cfg : Config) : Status := { p with i := p.i || cfg.intEntrySetsI }

/-- `ServiceInterrupt(kind)` (R265): push PC and the live P, set I by the parameter, clear the latch, load PC from the vector. -/
def serviceInterrupt (k : InterruptKind) (s : State) : Host.Outcome State Fault Refusal :=
  andThen (pushFrame s.pc s.p.toByte s) fun s =>
  andThen (read16 k.vector ((s.setP (s.p.onEntry s.cfg)).setPending k false)) fun (target, s) =>
  .next (s.setPc target)

/-- What BRK does (R240): push `PC +16 BRK_PUSH_ADDEND` and P with Break set, set I, halt. PC stays where the fetch put it and the vector is
not read. -/
def takeBreak (s : State) : Host.Outcome State Fault Refusal :=
  andThen (pushFrame (s.pc + s.cfg.brkPushAddend) (s.p.toByte ||| 0x10) s) fun s =>
  .next ((s.setP { s.p with i := true }).halt .brk)

/-- The return from interrupt (R241, R267): pull P, all bits but Break and Unused, then PC, low byte first. -/
def returnFromInterrupt (s : State) : Host.Outcome State Fault Refusal :=
  andThen (pull8 s) fun (v, s) =>
  andThen (pull16 (s.setP (s.p.restore v))) fun (target, s) =>
  .next (s.setPc target)

/-- An illegal opcode (R271): only the run state changes beyond the fetch, and the step reports the byte. -/
def illegalOpcode (op : Byte) (s : State) : State := (s.halt .illegalOpcode).setResult (.illegalOpcode op)

end Sys2Proof.Machine
end

