-- ==== Sys2Proof/Machine/Operands.lean ====
section
/-! DEFINITION. Every operand form (spec/40_step_and_addressing.md R114 to R124, R130, R131). The forms are split by what an instruction
can do with them, so that a category an instruction does not support cannot be presented to it (R113, R273, log 12). -/

namespace Sys2Proof.Machine

/-- An operand in memory: the eight categories with an effective address that data is read from or written to. -/
inductive MemOperand
  | zeroPage (z : Byte)
  | zeroPageX (z : Byte)
  | zeroPageY (z : Byte)
  | absolute (w : Word)
  | absoluteX (w : Word)
  | absoluteY (w : Word)
  | indirectX (z : Byte)
  | indirectY (z : Byte)
  deriving DecidableEq, Repr

/-- An operand that is read: the immediate byte or one in memory. -/
inductive ReadOperand
  | immediate (v : Byte)
  | mem (m : MemOperand)
  deriving DecidableEq, Repr

/-- Add an index to a 16-bit base; a page is crossed "if high byte changed" (R120, R121, R123). -/
def indexed (base : Word) (index : Byte) : Word × Bool :=
  (base + zext16 index, hiByte (base + zext16 index) != hiByte base)

/-- `EA(category, operand) -> (addr, crossed)` (R116 to R123). -/
def effectiveAddress (m : MemOperand) (s : State) : Host.Outcome ((Word × Bool) × State) Fault Refusal :=
  match m with
  | .zeroPage z => .next ((zext16 z, false), s)
  | .zeroPageX z => .next ((zext16 (z + s.x), false), s)
  | .zeroPageY z => .next ((zext16 (z + s.y), false), s)
  | .absolute w => .next ((w, false), s)
  | .absoluteX w => .next (indexed w s.x, s)
  | .absoluteY w => .next (indexed w s.y, s)
  | .indirectX z => andThen (readPointer (z + s.x) s) fun (w, s) => .next ((w, false), s)
  | .indirectY z => andThen (readPointer z s) fun (w, s) => .next (indexed w s.y, s)

/-- The pointer stored in page zero at `z` (R122, R123), as memory holds it. -/
def pointerAt (z : Byte) (s : State) : Word := ofBytes (s.mem.read (zext16 (z + 1))) (s.mem.read (zext16 z))

/-- The effective address as a value of the state: R116 to R123 without the bus. -/
def MemOperand.address (m : MemOperand) (s : State) : Word :=
  match m with
  | .zeroPage z => zext16 z
  | .zeroPageX z => zext16 (z + s.x)
  | .zeroPageY z => zext16 (z + s.y)
  | .absolute w => w
  | .absoluteX w => w + zext16 s.x
  | .absoluteY w => w + zext16 s.y
  | .indirectX z => pointerAt (z + s.x) s
  | .indirectY z => pointerAt z s + zext16 s.y

/-- Whether the effective address lies on another page than its base (R120, R121, R123). -/
def MemOperand.crosses (m : MemOperand) (s : State) : Bool :=
  match m with
  | .zeroPage _ | .zeroPageX _ | .zeroPageY _ | .absolute _ | .indirectX _ => false
  | .absoluteX w => (indexed w s.x).2
  | .absoluteY w => (indexed w s.y).2
  | .indirectY z => (indexed (pointerAt z s) s.y).2

/-- The operand's value as a value of the state: R131 without the bus. -/
def ReadOperand.value (o : ReadOperand) (s : State) : Byte :=
  match o with
  | .immediate v => v
  | .mem m => s.mem.read (m.address s)

/-- Whether reading the operand crosses a page (R131). -/
def ReadOperand.crosses (o : ReadOperand) (s : State) : Bool :=
  match o with
  | .immediate _ => false
  | .mem m => m.crosses s

/-- `Value(category, operand)` (R115, R131): the operand's value and whether a page was crossed. -/
def operandValue (o : ReadOperand) (s : State) : Host.Outcome ((Byte × Bool) × State) Fault Refusal :=
  match o with
  | .immediate v => .next ((v, false), s)
  | .mem m =>
    andThen (effectiveAddress m s) fun ((addr, crossed), s) =>
    andThen (memRead addr s) fun (v, s) => .next ((v, crossed), s)

/-- The handler's triple of an instruction that reports only a page cross (R110). -/
def ExecOutcome.ofCrossed (crossed : Bool) : ExecOutcome where
  crossed := crossed
  taken := false
  targetCrossed := false

/-- The target of a Relative operand (R130), from the post-fetch PC. -/
def relativeTarget (off : Byte) (s : State) : Word := s.pc + sext16 off

/-- Write a byte to an operand in memory; the target is not read first (R131). -/
def storeTo (m : MemOperand) (v : Byte) (s : State) : Host.Outcome State Fault Refusal :=
  andThen (effectiveAddress m s) fun ((addr, crossed), s) =>
  andThen (memWrite addr v s) fun s => complete (.ofCrossed crossed) s

/-- Read, modify, write an operand in memory: "exactly one read and one write, no dummy access" (R131). `f` gives the byte to write and the
status after it. -/
def modify (m : MemOperand) (f : Byte → Status → Byte × Status) (s : State) : Host.Outcome State Fault Refusal :=
  andThen (effectiveAddress m s) fun ((addr, crossed), s) =>
  andThen (memRead addr s) fun (v, s) =>
  andThen (memWrite addr (f v s.p).1 s) fun s' =>
  complete (.ofCrossed crossed) (s'.setP (f v s.p).2)

end Sys2Proof.Machine
end

