-- ==== Sys2Proof/Machine/Arithmetic.lean ====
section
/-! DEFINITION. ADC and SBC (spec/42_arithmetic.md R150, R151). -/

namespace Sys2Proof.Machine

/-- The effect of an ADC on A and P, given the operand's value (R150): binary or decimal by P.D. -/
def State.addToA (s : State) (m : Byte) : State :=
  if s.p.d then
    let res := addDecimal s.a m s.p.c
    (s.setA res.r).setP (s.p.decimal res)
  else
    let res := addBinary s.a m s.p.c
    (s.setA res.r).setP (s.p.binary res)

/-- The effect of an SBC on A and P, given the operand's value (R151). -/
def State.subFromA (s : State) (m : Byte) : State :=
  if s.p.d then
    let res := subDecimal s.a m s.p.c
    (s.setA res.r).setP (s.p.decimal res)
  else
    let res := subBinary s.a m s.p.c
    (s.setA res.r).setP (s.p.binary res)

/-- ADC with any operand (R150). -/
def addWithCarry (o : ReadOperand) (s : State) : Host.Outcome State Fault Refusal :=
  andThen (operandValue o s) fun ((m, crossed), s) => complete (.ofCrossed crossed) (s.addToA m)

/-- SBC with any operand (R151). -/
def subtractWithCarry (o : ReadOperand) (s : State) : Host.Outcome State Fault Refusal :=
  andThen (operandValue o s) fun ((m, crossed), s) => complete (.ofCrossed crossed) (s.subFromA m)

/-- `ADC #$nn` (R150). -/
def execAdcImm (v : Byte) (s : State) : Host.Outcome State Fault Refusal :=
  addWithCarry (.immediate v) s

/-- `ADC $nn` (R150). -/
def execAdcZp (z : Byte) (s : State) : Host.Outcome State Fault Refusal :=
  addWithCarry (.mem (.zeroPage z)) s

/-- `ADC $nn,X` (R150). -/
def execAdcZpx (z : Byte) (s : State) : Host.Outcome State Fault Refusal :=
  addWithCarry (.mem (.zeroPageX z)) s

/-- `ADC $nnnn` (R150). -/
def execAdcAbs (w : Word) (s : State) : Host.Outcome State Fault Refusal :=
  addWithCarry (.mem (.absolute w)) s

/-- `ADC $nnnn,X` (R150). -/
def execAdcAbx (w : Word) (s : State) : Host.Outcome State Fault Refusal :=
  addWithCarry (.mem (.absoluteX w)) s

/-- `ADC $nnnn,Y` (R150). -/
def execAdcAby (w : Word) (s : State) : Host.Outcome State Fault Refusal :=
  addWithCarry (.mem (.absoluteY w)) s

/-- `ADC ($nn,X)` (R150). -/
def execAdcIzx (z : Byte) (s : State) : Host.Outcome State Fault Refusal :=
  addWithCarry (.mem (.indirectX z)) s

/-- `ADC ($nn),Y` (R150). -/
def execAdcIzy (z : Byte) (s : State) : Host.Outcome State Fault Refusal :=
  addWithCarry (.mem (.indirectY z)) s

/-- `SBC #$nn` (R151). -/
def execSbcImm (v : Byte) (s : State) : Host.Outcome State Fault Refusal :=
  subtractWithCarry (.immediate v) s

/-- `SBC $nn` (R151). -/
def execSbcZp (z : Byte) (s : State) : Host.Outcome State Fault Refusal :=
  subtractWithCarry (.mem (.zeroPage z)) s

/-- `SBC $nn,X` (R151). -/
def execSbcZpx (z : Byte) (s : State) : Host.Outcome State Fault Refusal :=
  subtractWithCarry (.mem (.zeroPageX z)) s

/-- `SBC $nnnn` (R151). -/
def execSbcAbs (w : Word) (s : State) : Host.Outcome State Fault Refusal :=
  subtractWithCarry (.mem (.absolute w)) s

/-- `SBC $nnnn,X` (R151). -/
def execSbcAbx (w : Word) (s : State) : Host.Outcome State Fault Refusal :=
  subtractWithCarry (.mem (.absoluteX w)) s

/-- `SBC $nnnn,Y` (R151). -/
def execSbcAby (w : Word) (s : State) : Host.Outcome State Fault Refusal :=
  subtractWithCarry (.mem (.absoluteY w)) s

/-- `SBC ($nn,X)` (R151). -/
def execSbcIzx (z : Byte) (s : State) : Host.Outcome State Fault Refusal :=
  subtractWithCarry (.mem (.indirectX z)) s

/-- `SBC ($nn),Y` (R151). -/
def execSbcIzy (z : Byte) (s : State) : Host.Outcome State Fault Refusal :=
  subtractWithCarry (.mem (.indirectY z)) s

end Sys2Proof.Machine
end

