-- ==== Sys2Proof/Machine/Branch.lean ====
section
/-! DEFINITION. The eight branches, JMP, JSR, RTS (spec/47_branch_jump.md R200 to R211). PC is the post-fetch PC. -/

namespace Sys2Proof.Machine

/-- The branch frame (R200): "if the test passes, PC += signed 8-bit offset"; otherwise PC is unchanged. -/
def branch (flag expected : Bool) (off : Byte) (s : State) : Host.Outcome State Fault Refusal :=
  if flag = expected then
    complete ⟨false, true, hiByte (relativeTarget off s) != hiByte s.pc⟩ (s.setPc (relativeTarget off s))
  else complete .plain s

/-- `BCC *+n` (R201). -/
def execBcc (off : Byte) (s : State) : Host.Outcome State Fault Refusal :=
  branch s.p.c false off s

/-- `BCS *+n` (R202). -/
def execBcs (off : Byte) (s : State) : Host.Outcome State Fault Refusal :=
  branch s.p.c true off s

/-- `BEQ *+n` (R203). -/
def execBeq (off : Byte) (s : State) : Host.Outcome State Fault Refusal :=
  branch s.p.z true off s

/-- `BNE *+n` (R204). -/
def execBne (off : Byte) (s : State) : Host.Outcome State Fault Refusal :=
  branch s.p.z false off s

/-- `BMI *+n` (R205). -/
def execBmi (off : Byte) (s : State) : Host.Outcome State Fault Refusal :=
  branch s.p.n true off s

/-- `BPL *+n` (R206). -/
def execBpl (off : Byte) (s : State) : Host.Outcome State Fault Refusal :=
  branch s.p.n false off s

/-- `BVC *+n` (R207). -/
def execBvc (off : Byte) (s : State) : Host.Outcome State Fault Refusal :=
  branch s.p.v false off s

/-- `BVS *+n` (R208). -/
def execBvs (off : Byte) (s : State) : Host.Outcome State Fault Refusal :=
  branch s.p.v true off s

/-- `JMP $nnnn` (R209). -/
def execJmpAbs (w : Word) (s : State) : Host.Outcome State Fault Refusal :=
  complete .plain (s.setPc w)

/-- `JMP ($nnnn)` (R209). -/
def execJmpInd (w : Word) (s : State) : Host.Outcome State Fault Refusal :=
  andThen (read16 w s) fun (target, s) => complete .plain (s.setPc target)

/-- `JSR $nnnn` (R210). -/
def execJsr (w : Word) (s : State) : Host.Outcome State Fault Refusal :=
  andThen (push16 (s.pc - 1) s) fun s => complete .plain (s.setPc w)

/-- `RTS` (R211). -/
def execRts (s : State) : Host.Outcome State Fault Refusal :=
  andThen (pull16 s) fun (w, s) => complete .plain (s.setPc (w + 1))

end Sys2Proof.Machine
end

