-- ==== Sys2Proof/Machine/Compare.lean ====
section
/-! DEFINITION. CMP, CPX, CPY (spec/46_compare.md R190 to R193). -/

namespace Sys2Proof.Machine

/-- Compare a register with an operand (R190 to R193); only C, Z and N are written. -/
def compareWith (r : Register) (o : ReadOperand) (s : State) : Host.Outcome State Fault Refusal :=
  andThen (operandValue o s) fun ((m, crossed), s) =>
  complete (.ofCrossed crossed) (s.setP (s.p.compare (s.reg r) m))

/-- `CMP #$nn` (R190). -/
def execCmpImm (v : Byte) (s : State) : Host.Outcome State Fault Refusal :=
  compareWith .a (.immediate v) s

/-- `CMP $nn` (R190). -/
def execCmpZp (z : Byte) (s : State) : Host.Outcome State Fault Refusal :=
  compareWith .a (.mem (.zeroPage z)) s

/-- `CMP $nn,X` (R190). -/
def execCmpZpx (z : Byte) (s : State) : Host.Outcome State Fault Refusal :=
  compareWith .a (.mem (.zeroPageX z)) s

/-- `CMP $nnnn` (R190). -/
def execCmpAbs (w : Word) (s : State) : Host.Outcome State Fault Refusal :=
  compareWith .a (.mem (.absolute w)) s

/-- `CMP $nnnn,X` (R190). -/
def execCmpAbx (w : Word) (s : State) : Host.Outcome State Fault Refusal :=
  compareWith .a (.mem (.absoluteX w)) s

/-- `CMP $nnnn,Y` (R190). -/
def execCmpAby (w : Word) (s : State) : Host.Outcome State Fault Refusal :=
  compareWith .a (.mem (.absoluteY w)) s

/-- `CMP ($nn,X)` (R190). -/
def execCmpIzx (z : Byte) (s : State) : Host.Outcome State Fault Refusal :=
  compareWith .a (.mem (.indirectX z)) s

/-- `CMP ($nn),Y` (R190). -/
def execCmpIzy (z : Byte) (s : State) : Host.Outcome State Fault Refusal :=
  compareWith .a (.mem (.indirectY z)) s

/-- `CPX #$nn` (R191). -/
def execCpxImm (v : Byte) (s : State) : Host.Outcome State Fault Refusal :=
  compareWith .x (.immediate v) s

/-- `CPX $nn` (R191). -/
def execCpxZp (z : Byte) (s : State) : Host.Outcome State Fault Refusal :=
  compareWith .x (.mem (.zeroPage z)) s

/-- `CPX $nnnn` (R191). -/
def execCpxAbs (w : Word) (s : State) : Host.Outcome State Fault Refusal :=
  compareWith .x (.mem (.absolute w)) s

/-- `CPY #$nn` (R192). -/
def execCpyImm (v : Byte) (s : State) : Host.Outcome State Fault Refusal :=
  compareWith .y (.immediate v) s

/-- `CPY $nn` (R192). -/
def execCpyZp (z : Byte) (s : State) : Host.Outcome State Fault Refusal :=
  compareWith .y (.mem (.zeroPage z)) s

/-- `CPY $nnnn` (R192). -/
def execCpyAbs (w : Word) (s : State) : Host.Outcome State Fault Refusal :=
  compareWith .y (.mem (.absolute w)) s

end Sys2Proof.Machine
end

