-- ==== Sys2Proof/Machine/IncDec.lean ====
section
/-! DEFINITION. INC, DEC, INX, INY, DEX, DEY (spec/43_incdec.md R160 to R165): binary in decimal mode too. -/

namespace Sys2Proof.Machine

/-- INC and DEC (R160, R161): add `delta` to a memory cell modulo 256 and set Z and N from the result. -/
def adjustMemory (delta : Byte) (m : MemOperand) (s : State) : Host.Outcome State Fault Refusal :=
  modify m (fun v p => (v + delta, p.setZN (v + delta))) s

/-- INX, INY, DEX, DEY (R162 to R165): add `delta` to a register modulo 256 and set Z and N from the result. -/
def adjustRegister (delta : Byte) (r : Register) (s : State) : Host.Outcome State Fault Refusal :=
  complete .plain ((s.setReg r (s.reg r + delta)).setZN (s.reg r + delta))

/-- `INC $nn` (R160). -/
def execIncZp (z : Byte) (s : State) : Host.Outcome State Fault Refusal :=
  adjustMemory 1 (.zeroPage z) s

/-- `INC $nn,X` (R160). -/
def execIncZpx (z : Byte) (s : State) : Host.Outcome State Fault Refusal :=
  adjustMemory 1 (.zeroPageX z) s

/-- `INC $nnnn` (R160). -/
def execIncAbs (w : Word) (s : State) : Host.Outcome State Fault Refusal :=
  adjustMemory 1 (.absolute w) s

/-- `INC $nnnn,X` (R160). -/
def execIncAbx (w : Word) (s : State) : Host.Outcome State Fault Refusal :=
  adjustMemory 1 (.absoluteX w) s

/-- `DEC $nn` (R161). -/
def execDecZp (z : Byte) (s : State) : Host.Outcome State Fault Refusal :=
  adjustMemory (-1) (.zeroPage z) s

/-- `DEC $nn,X` (R161). -/
def execDecZpx (z : Byte) (s : State) : Host.Outcome State Fault Refusal :=
  adjustMemory (-1) (.zeroPageX z) s

/-- `DEC $nnnn` (R161). -/
def execDecAbs (w : Word) (s : State) : Host.Outcome State Fault Refusal :=
  adjustMemory (-1) (.absolute w) s

/-- `DEC $nnnn,X` (R161). -/
def execDecAbx (w : Word) (s : State) : Host.Outcome State Fault Refusal :=
  adjustMemory (-1) (.absoluteX w) s

/-- `INX` (R162). -/
def execInx (s : State) : Host.Outcome State Fault Refusal :=
  adjustRegister 1 .x s

/-- `INY` (R163). -/
def execIny (s : State) : Host.Outcome State Fault Refusal :=
  adjustRegister 1 .y s

/-- `DEX` (R164). -/
def execDex (s : State) : Host.Outcome State Fault Refusal :=
  adjustRegister (-1) .x s

/-- `DEY` (R165). -/
def execDey (s : State) : Host.Outcome State Fault Refusal :=
  adjustRegister (-1) .y s

end Sys2Proof.Machine
end

