-- ==== Sys2Proof/Machine/LoadStore.lean ====
section
/-! DEFINITION. LDA, LDX, LDY, STA, STX, STY (spec/41_load_store.md R140 to R145). -/

namespace Sys2Proof.Machine

/-- "loads set the target register and update Zero/Negative from the loaded value" (R140 to R142). -/
def load (r : Register) (o : ReadOperand) (s : State) : Host.Outcome State Fault Refusal :=
  andThen (operandValue o s) fun ((v, crossed), s) => complete (.ofCrossed crossed) ((s.setReg r v).setZN v)

/-- "stores write the source register's value to the effective address with no flag changes" (R143 to R145). -/
def store (r : Register) (m : MemOperand) (s : State) : Host.Outcome State Fault Refusal :=
  storeTo m (s.reg r) s

/-- `LDA #$nn` (R140). -/
def execLdaImm (v : Byte) (s : State) : Host.Outcome State Fault Refusal :=
  load .a (.immediate v) s

/-- `LDA $nn` (R140). -/
def execLdaZp (z : Byte) (s : State) : Host.Outcome State Fault Refusal :=
  load .a (.mem (.zeroPage z)) s

/-- `LDA $nn,X` (R140). -/
def execLdaZpx (z : Byte) (s : State) : Host.Outcome State Fault Refusal :=
  load .a (.mem (.zeroPageX z)) s

/-- `LDA $nnnn` (R140). -/
def execLdaAbs (w : Word) (s : State) : Host.Outcome State Fault Refusal :=
  load .a (.mem (.absolute w)) s

/-- `LDA $nnnn,X` (R140). -/
def execLdaAbx (w : Word) (s : State) : Host.Outcome State Fault Refusal :=
  load .a (.mem (.absoluteX w)) s

/-- `LDA $nnnn,Y` (R140). -/
def execLdaAby (w : Word) (s : State) : Host.Outcome State Fault Refusal :=
  load .a (.mem (.absoluteY w)) s

/-- `LDA ($nn,X)` (R140). -/
def execLdaIzx (z : Byte) (s : State) : Host.Outcome State Fault Refusal :=
  load .a (.mem (.indirectX z)) s

/-- `LDA ($nn),Y` (R140). -/
def execLdaIzy (z : Byte) (s : State) : Host.Outcome State Fault Refusal :=
  load .a (.mem (.indirectY z)) s

/-- `LDX #$nn` (R141). -/
def execLdxImm (v : Byte) (s : State) : Host.Outcome State Fault Refusal :=
  load .x (.immediate v) s

/-- `LDX $nn` (R141). -/
def execLdxZp (z : Byte) (s : State) : Host.Outcome State Fault Refusal :=
  load .x (.mem (.zeroPage z)) s

/-- `LDX $nn,Y` (R141). -/
def execLdxZpy (z : Byte) (s : State) : Host.Outcome State Fault Refusal :=
  load .x (.mem (.zeroPageY z)) s

/-- `LDX $nnnn` (R141). -/
def execLdxAbs (w : Word) (s : State) : Host.Outcome State Fault Refusal :=
  load .x (.mem (.absolute w)) s

/-- `LDX $nnnn,Y` (R141). -/
def execLdxAby (w : Word) (s : State) : Host.Outcome State Fault Refusal :=
  load .x (.mem (.absoluteY w)) s

/-- `LDY #$nn` (R142). -/
def execLdyImm (v : Byte) (s : State) : Host.Outcome State Fault Refusal :=
  load .y (.immediate v) s

/-- `LDY $nn` (R142). -/
def execLdyZp (z : Byte) (s : State) : Host.Outcome State Fault Refusal :=
  load .y (.mem (.zeroPage z)) s

/-- `LDY $nn,X` (R142). -/
def execLdyZpx (z : Byte) (s : State) : Host.Outcome State Fault Refusal :=
  load .y (.mem (.zeroPageX z)) s

/-- `LDY $nnnn` (R142). -/
def execLdyAbs (w : Word) (s : State) : Host.Outcome State Fault Refusal :=
  load .y (.mem (.absolute w)) s

/-- `LDY $nnnn,X` (R142). -/
def execLdyAbx (w : Word) (s : State) : Host.Outcome State Fault Refusal :=
  load .y (.mem (.absoluteX w)) s

/-- `STA $nn` (R143). -/
def execStaZp (z : Byte) (s : State) : Host.Outcome State Fault Refusal :=
  store .a (.zeroPage z) s

/-- `STA $nn,X` (R143). -/
def execStaZpx (z : Byte) (s : State) : Host.Outcome State Fault Refusal :=
  store .a (.zeroPageX z) s

/-- `STA $nnnn` (R143). -/
def execStaAbs (w : Word) (s : State) : Host.Outcome State Fault Refusal :=
  store .a (.absolute w) s

/-- `STA $nnnn,X` (R143). -/
def execStaAbx (w : Word) (s : State) : Host.Outcome State Fault Refusal :=
  store .a (.absoluteX w) s

/-- `STA $nnnn,Y` (R143). -/
def execStaAby (w : Word) (s : State) : Host.Outcome State Fault Refusal :=
  store .a (.absoluteY w) s

/-- `STA ($nn,X)` (R143). -/
def execStaIzx (z : Byte) (s : State) : Host.Outcome State Fault Refusal :=
  store .a (.indirectX z) s

/-- `STA ($nn),Y` (R143). -/
def execStaIzy (z : Byte) (s : State) : Host.Outcome State Fault Refusal :=
  store .a (.indirectY z) s

/-- `STX $nn` (R144). -/
def execStxZp (z : Byte) (s : State) : Host.Outcome State Fault Refusal :=
  store .x (.zeroPage z) s

/-- `STX $nn,Y` (R144). -/
def execStxZpy (z : Byte) (s : State) : Host.Outcome State Fault Refusal :=
  store .x (.zeroPageY z) s

/-- `STX $nnnn` (R144). -/
def execStxAbs (w : Word) (s : State) : Host.Outcome State Fault Refusal :=
  store .x (.absolute w) s

/-- `STY $nn` (R145). -/
def execStyZp (z : Byte) (s : State) : Host.Outcome State Fault Refusal :=
  store .y (.zeroPage z) s

/-- `STY $nn,X` (R145). -/
def execStyZpx (z : Byte) (s : State) : Host.Outcome State Fault Refusal :=
  store .y (.zeroPageX z) s

/-- `STY $nnnn` (R145). -/
def execStyAbs (w : Word) (s : State) : Host.Outcome State Fault Refusal :=
  store .y (.absolute w) s

end Sys2Proof.Machine
end

