-- ==== Sys2Proof/Machine/Logical.lean ====
section
/-! DEFINITION. AND, ORA, EOR, BIT (spec/44_logical.md R170 to R173). -/

namespace Sys2Proof.Machine

/-- AND, ORA and EOR (R170 to R172): combine A with the operand, write A, set Z and N from it. -/
def logical (f : Byte → Byte → Byte) (o : ReadOperand) (s : State) : Host.Outcome State Fault Refusal :=
  andThen (operandValue o s) fun ((m, crossed), s) =>
  complete (.ofCrossed crossed) ((s.setA (f s.a m)).setZN (f s.a m))

/-- BIT (R173): Z from `A AND m`; N and V from the memory byte "for non-Immediate forms". No opcode selects the Immediate form (D25); the clause
is kept because the source states it. -/
def bitTest (o : ReadOperand) (s : State) : Host.Outcome State Fault Refusal :=
  andThen (operandValue o s) fun ((m, crossed), s) =>
  match o with
  | .immediate _ => complete (.ofCrossed crossed) (s.setP (s.p.bitZ s.a m))
  | .mem _ => complete (.ofCrossed crossed) (s.setP ((s.p.bitZ s.a m).bitNV m))

/-- `AND #$nn` (R170). -/
def execAndImm (v : Byte) (s : State) : Host.Outcome State Fault Refusal :=
  logical (fun a m => a &&& m) (.immediate v) s

/-- `AND $nn` (R170). -/
def execAndZp (z : Byte) (s : State) : Host.Outcome State Fault Refusal :=
  logical (fun a m => a &&& m) (.mem (.zeroPage z)) s

/-- `AND $nn,X` (R170). -/
def execAndZpx (z : Byte) (s : State) : Host.Outcome State Fault Refusal :=
  logical (fun a m => a &&& m) (.mem (.zeroPageX z)) s

/-- `AND $nnnn` (R170). -/
def execAndAbs (w : Word) (s : State) : Host.Outcome State Fault Refusal :=
  logical (fun a m => a &&& m) (.mem (.absolute w)) s

/-- `AND $nnnn,X` (R170). -/
def execAndAbx (w : Word) (s : State) : Host.Outcome State Fault Refusal :=
  logical (fun a m => a &&& m) (.mem (.absoluteX w)) s

/-- `AND $nnnn,Y` (R170). -/
def execAndAby (w : Word) (s : State) : Host.Outcome State Fault Refusal :=
  logical (fun a m => a &&& m) (.mem (.absoluteY w)) s

/-- `AND ($nn,X)` (R170). -/
def execAndIzx (z : Byte) (s : State) : Host.Outcome State Fault Refusal :=
  logical (fun a m => a &&& m) (.mem (.indirectX z)) s

/-- `AND ($nn),Y` (R170). -/
def execAndIzy (z : Byte) (s : State) : Host.Outcome State Fault Refusal :=
  logical (fun a m => a &&& m) (.mem (.indirectY z)) s

/-- `ORA #$nn` (R171). -/
def execOraImm (v : Byte) (s : State) : Host.Outcome State Fault Refusal :=
  logical (fun a m => a ||| m) (.immediate v) s

/-- `ORA $nn` (R171). -/
def execOraZp (z : Byte) (s : State) : Host.Outcome State Fault Refusal :=
  logical (fun a m => a ||| m) (.mem (.zeroPage z)) s

/-- `ORA $nn,X` (R171). -/
def execOraZpx (z : Byte) (s : State) : Host.Outcome State Fault Refusal :=
  logical (fun a m => a ||| m) (.mem (.zeroPageX z)) s

/-- `ORA $nnnn` (R171). -/
def execOraAbs (w : Word) (s : State) : Host.Outcome State Fault Refusal :=
  logical (fun a m => a ||| m) (.mem (.absolute w)) s

/-- `ORA $nnnn,X` (R171). -/
def execOraAbx (w : Word) (s : State) : Host.Outcome State Fault Refusal :=
  logical (fun a m => a ||| m) (.mem (.absoluteX w)) s

/-- `ORA $nnnn,Y` (R171). -/
def execOraAby (w : Word) (s : State) : Host.Outcome State Fault Refusal :=
  logical (fun a m => a ||| m) (.mem (.absoluteY w)) s

/-- `ORA ($nn,X)` (R171). -/
def execOraIzx (z : Byte) (s : State) : Host.Outcome State Fault Refusal :=
  logical (fun a m => a ||| m) (.mem (.indirectX z)) s

/-- `ORA ($nn),Y` (R171). -/
def execOraIzy (z : Byte) (s : State) : Host.Outcome State Fault Refusal :=
  logical (fun a m => a ||| m) (.mem (.indirectY z)) s

/-- `EOR #$nn` (R172). -/
def execEorImm (v : Byte) (s : State) : Host.Outcome State Fault Refusal :=
  logical (fun a m => a ^^^ m) (.immediate v) s

/-- `EOR $nn` (R172). -/
def execEorZp (z : Byte) (s : State) : Host.Outcome State Fault Refusal :=
  logical (fun a m => a ^^^ m) (.mem (.zeroPage z)) s

/-- `EOR $nn,X` (R172). -/
def execEorZpx (z : Byte) (s : State) : Host.Outcome State Fault Refusal :=
  logical (fun a m => a ^^^ m) (.mem (.zeroPageX z)) s

/-- `EOR $nnnn` (R172). -/
def execEorAbs (w : Word) (s : State) : Host.Outcome State Fault Refusal :=
  logical (fun a m => a ^^^ m) (.mem (.absolute w)) s

/-- `EOR $nnnn,X` (R172). -/
def execEorAbx (w : Word) (s : State) : Host.Outcome State Fault Refusal :=
  logical (fun a m => a ^^^ m) (.mem (.absoluteX w)) s

/-- `EOR $nnnn,Y` (R172). -/
def execEorAby (w : Word) (s : State) : Host.Outcome State Fault Refusal :=
  logical (fun a m => a ^^^ m) (.mem (.absoluteY w)) s

/-- `EOR ($nn,X)` (R172). -/
def execEorIzx (z : Byte) (s : State) : Host.Outcome State Fault Refusal :=
  logical (fun a m => a ^^^ m) (.mem (.indirectX z)) s

/-- `EOR ($nn),Y` (R172). -/
def execEorIzy (z : Byte) (s : State) : Host.Outcome State Fault Refusal :=
  logical (fun a m => a ^^^ m) (.mem (.indirectY z)) s

/-- `BIT $nn` (R173). -/
def execBitZp (z : Byte) (s : State) : Host.Outcome State Fault Refusal :=
  bitTest (.mem (.zeroPage z)) s

/-- `BIT $nnnn` (R173). -/
def execBitAbs (w : Word) (s : State) : Host.Outcome State Fault Refusal :=
  bitTest (.mem (.absolute w)) s

end Sys2Proof.Machine
end

