-- ==== Sys2Proof/Machine/Shift.lean ====
section
/-! DEFINITION. ASL, LSR, ROL, ROR (spec/45_shift_rotate.md R180 to R183). -/

namespace Sys2Proof.Machine

/-- The shared frame in Accumulator mode: `(r, c) = f(A, P.C)`; A, C, Z and N are written. -/
def shiftA (f : Byte → Bool → Byte × Bool) (s : State) : Host.Outcome State Fault Refusal :=
  complete .plain ((s.setA (f s.a s.p.c).1).setP (s.p.shifted (f s.a s.p.c).1 (f s.a s.p.c).2))

/-- The shared frame on a memory cell: one read and one write. -/
def shiftMemory (f : Byte → Bool → Byte × Bool) (m : MemOperand) (s : State) : Host.Outcome State Fault Refusal :=
  modify m (fun v p => ((f v p.c).1, p.shifted (f v p.c).1 (f v p.c).2)) s

/-- `ASL A` (R180). -/
def execAslAcc (s : State) : Host.Outcome State Fault Refusal :=
  shiftA aslByte s

/-- `ASL $nn` (R180). -/
def execAslZp (z : Byte) (s : State) : Host.Outcome State Fault Refusal :=
  shiftMemory aslByte (.zeroPage z) s

/-- `ASL $nn,X` (R180). -/
def execAslZpx (z : Byte) (s : State) : Host.Outcome State Fault Refusal :=
  shiftMemory aslByte (.zeroPageX z) s

/-- `ASL $nnnn` (R180). -/
def execAslAbs (w : Word) (s : State) : Host.Outcome State Fault Refusal :=
  shiftMemory aslByte (.absolute w) s

/-- `ASL $nnnn,X` (R180). -/
def execAslAbx (w : Word) (s : State) : Host.Outcome State Fault Refusal :=
  shiftMemory aslByte (.absoluteX w) s

/-- `LSR A` (R181). -/
def execLsrAcc (s : State) : Host.Outcome State Fault Refusal :=
  shiftA lsrByte s

/-- `LSR $nn` (R181). -/
def execLsrZp (z : Byte) (s : State) : Host.Outcome State Fault Refusal :=
  shiftMemory lsrByte (.zeroPage z) s

/-- `LSR $nn,X` (R181). -/
def execLsrZpx (z : Byte) (s : State) : Host.Outcome State Fault Refusal :=
  shiftMemory lsrByte (.zeroPageX z) s

/-- `LSR $nnnn` (R181). -/
def execLsrAbs (w : Word) (s : State) : Host.Outcome State Fault Refusal :=
  shiftMemory lsrByte (.absolute w) s

/-- `LSR $nnnn,X` (R181). -/
def execLsrAbx (w : Word) (s : State) : Host.Outcome State Fault Refusal :=
  shiftMemory lsrByte (.absoluteX w) s

/-- `ROL A` (R182). -/
def execRolAcc (s : State) : Host.Outcome State Fault Refusal :=
  shiftA rolByte s

/-- `ROL $nn` (R182). -/
def execRolZp (z : Byte) (s : State) : Host.Outcome State Fault Refusal :=
  shiftMemory rolByte (.zeroPage z) s

/-- `ROL $nn,X` (R182). -/
def execRolZpx (z : Byte) (s : State) : Host.Outcome State Fault Refusal :=
  shiftMemory rolByte (.zeroPageX z) s

/-- `ROL $nnnn` (R182). -/
def execRolAbs (w : Word) (s : State) : Host.Outcome State Fault Refusal :=
  shiftMemory rolByte (.absolute w) s

/-- `ROL $nnnn,X` (R182). -/
def execRolAbx (w : Word) (s : State) : Host.Outcome State Fault Refusal :=
  shiftMemory rolByte (.absoluteX w) s

/-- `ROR A` (R183). -/
def execRorAcc (s : State) : Host.Outcome State Fault Refusal :=
  shiftA rorByte s

/-- `ROR $nn` (R183). -/
def execRorZp (z : Byte) (s : State) : Host.Outcome State Fault Refusal :=
  shiftMemory rorByte (.zeroPage z) s

/-- `ROR $nn,X` (R183). -/
def execRorZpx (z : Byte) (s : State) : Host.Outcome State Fault Refusal :=
  shiftMemory rorByte (.zeroPageX z) s

/-- `ROR $nnnn` (R183). -/
def execRorAbs (w : Word) (s : State) : Host.Outcome State Fault Refusal :=
  shiftMemory rorByte (.absolute w) s

/-- `ROR $nnnn,X` (R183). -/
def execRorAbx (w : Word) (s : State) : Host.Outcome State Fault Refusal :=
  shiftMemory rorByte (.absoluteX w) s

end Sys2Proof.Machine
end

