-- ==== Sys2Proof/Machine/StackFlag.lean ====
section
/-! DEFINITION. PHA, PLA, PHP, PLP and the flag instructions (spec/48_stack_flag.md R220 to R230). -/

namespace Sys2Proof.Machine

/-- `PHA` (R220). -/
def execPha (s : State) : Host.Outcome State Fault Refusal :=
  andThen (push8 s.a s) fun s => complete .plain s

/-- `PLA` (R221). -/
def execPla (s : State) : Host.Outcome State Fault Refusal :=
  andThen (pull8 s) fun (v, s) => complete .plain ((s.setA v).setZN v)

/-- `PHP` (R222). -/
def execPhp (s : State) : Host.Outcome State Fault Refusal :=
  andThen (push8 (s.p.toByte ||| 0x30) s) fun s => complete .plain s

/-- `PLP` (R223). -/
def execPlp (s : State) : Host.Outcome State Fault Refusal :=
  andThen (pull8 s) fun (v, s) => complete .plain (s.setP (s.p.restore v))

/-- `CLC` (R224). -/
def execClc (s : State) : Host.Outcome State Fault Refusal :=
  complete .plain (s.setP { s.p with c := false })

/-- `SEC` (R225). -/
def execSec (s : State) : Host.Outcome State Fault Refusal :=
  complete .plain (s.setP { s.p with c := true })

/-- `CLI` (R226). -/
def execCli (s : State) : Host.Outcome State Fault Refusal :=
  complete .plain (s.setP { s.p with i := false })

/-- `SEI` (R227). -/
def execSei (s : State) : Host.Outcome State Fault Refusal :=
  complete .plain (s.setP { s.p with i := true })

/-- `CLD` (R228). -/
def execCld (s : State) : Host.Outcome State Fault Refusal :=
  complete .plain (s.setP { s.p with d := false })

/-- `SED` (R229). -/
def execSed (s : State) : Host.Outcome State Fault Refusal :=
  complete .plain (s.setP { s.p with d := true })

/-- `CLV` (R230). -/
def execClv (s : State) : Host.Outcome State Fault Refusal :=
  complete .plain (s.setP { s.p with v := false })

end Sys2Proof.Machine
end

