-- ==== Sys2Proof/Machine/System.lean ====
section
/-! DEFINITION. BRK, RTI, NOP and the register transfers (spec/49_system_transfer.md R240 to R248). The transfers are in the Opcode Table only if
`HAS_TRANSFER_GROUP` is true (R6, log 1); the step does not reach them otherwise. -/

namespace Sys2Proof.Machine

/-- A transfer that sets Z and N (R243 to R247). -/
def transfer (source target : Register) (s : State) : Host.Outcome State Fault Refusal :=
  complete .plain ((s.setReg target (s.reg source)).setZN (s.reg source))

/-- `BRK` (R240). -/
def execBrk (s : State) : Host.Outcome State Fault Refusal :=
  andThen (takeBreak s) fun s => complete .plain s

/-- `RTI` (R241). -/
def execRti (s : State) : Host.Outcome State Fault Refusal :=
  andThen (returnFromInterrupt s) fun s => complete .plain s

/-- `NOP` (R242). -/
def execNop (s : State) : Host.Outcome State Fault Refusal :=
  complete .plain s

/-- `TAX` (R243). -/
def execTax (s : State) : Host.Outcome State Fault Refusal :=
  transfer .a .x s

/-- `TAY` (R244). -/
def execTay (s : State) : Host.Outcome State Fault Refusal :=
  transfer .a .y s

/-- `TXA` (R245). -/
def execTxa (s : State) : Host.Outcome State Fault Refusal :=
  transfer .x .a s

/-- `TYA` (R246). -/
def execTya (s : State) : Host.Outcome State Fault Refusal :=
  transfer .y .a s

/-- `TSX` (R247). -/
def execTsx (s : State) : Host.Outcome State Fault Refusal :=
  transfer .s .x s

/-- `TXS` (R248). -/
def execTxs (s : State) : Host.Outcome State Fault Refusal :=
  complete .plain (s.setSp s.x)

end Sys2Proof.Machine
end

