-- ==== Sys2Proof/Machine/Fetch.lean ====
section
/-! DEFINITION. Fetch, decode, dispatch and the accounting of one step (spec/40_step_and_addressing.md R110 to R113, R132), and the two
cases before it: a halted core and a pending interrupt (spec/60_exceptions.md R260, R263, R264). -/

namespace Sys2Proof.Machine

/-- Read the byte at PC, then advance PC by 1 modulo 65536 (R111, R112). -/
def fetchByte (s : State) : Host.Outcome (Byte × State) Fault Refusal :=
  andThen (memRead s.pc s) fun (b, s) => .next (b, s.setPc (s.pc + 1))

/-- Fetch exactly the operand bytes the entry declares and build the instruction, low byte first (R93, R94, R112). -/
def fetchOperand (form : Form) (s : State) : Host.Outcome (Instr × State) Fault Refusal :=
  match form with
  | .op0 i => .next (i, s)
  | .op1 f => andThen (fetchByte s) fun (b1, s) => .next (f b1, s)
  | .op2 f =>
    andThen (fetchByte s) fun (b1, s) =>
    andThen (fetchByte s) fun (b2, s) => .next (f (ofBytes b2 b1), s)

/-- The realized cycles of an executed instruction (R110, R132). -/
def realizedCycles (e : OpcodeEntry) (o : ExecOutcome) : Nat :=
  e.baseCycles + (e.pageCrossAddsCycle && o.crossed).toNat + (e.branchAddsCycle && o.taken).toNat +
    (e.branchAddsCycle && o.taken && o.targetCrossed).toNat

/-- The event of an executed instruction, if debugging is enabled (R285). -/
def State.debugEvent (s : State) (ev : DebugEvent) : Option DebugEvent := if s.debugEnabled then some ev else none

/-- The end of an executed instruction (R110 step 5): report the cycles and emit the event. `pc0` is the address of the opcode. -/
def retire (pc0 : Word) (op : Byte) (e : OpcodeEntry) (i : Instr) (s : State) : State :=
  (s.setEvent (s.debugEvent ⟨pc0, op, realizedCycles e s.obs.outcome, i.operand⟩)).setResult
    (.executed (realizedCycles e s.obs.outcome))

/-- Steps (2) to (5) of R110: fetch, decode, dispatch, account. An unpopulated slot halts the core (R111, R271). -/
def fetchAndExecute (s : State) : Host.Outcome State Fault Refusal :=
  andThen (fetchByte s) fun (op, s1) =>
  match opcodeEntry s1.cfg op with
  | none => .next (illegalOpcode op s1)
  | some e =>
    andThen (fetchOperand e.form s1) fun (i, s2) =>
    andThen (exec i s2) fun s3 => .next (retire s.pc op e i s3)

/-- The cycles a step reports (R288): those of the instruction, 7 for an interrupt entry, none otherwise. -/
def StepResult.cycles : StepResult → Option Nat
  | .ignored => none
  | .serviced _ => some 7
  | .executed n => some n
  | .illegalOpcode _ => none

/-- A step that services an interrupt executes no instruction (R263). -/
def serviceStep (k : InterruptKind) (s : State) : Host.Outcome State Fault Refusal :=
  andThen (serviceInterrupt k s) fun s => .next (s.setResult (.serviced k))

/-- The interrupt the step takes, if any: "NMI first, then IRQ (only if InterruptDisable is clear), then none" (R264). -/
def selectInterrupt (s : State) : Option InterruptKind :=
  if s.nmiPending then some .nmi
  else if s.irqPending && !s.p.i then some .irq
  else none

/-- A step of a core that is not halted: Ready becomes Running, then the pending interrupt or the next instruction (R110, R260). -/
def activeStep (s : State) : Host.Outcome State Fault Refusal :=
  match selectInterrupt s with
  | some k => serviceStep k (s.clearObs.setRun .running)
  | none => fetchAndExecute (s.clearObs.setRun .running)

/-- A step of a halted core: "Halted ignores `step` (no-op)" (R260, R288). -/
def ignoredStep (s : State) : State := s.clearObs.setResult .ignored

/-- Is the run state `Halted(_)` (R29). -/
def RunState.isHalted : RunState → Bool
  | .ready => false
  | .running => false
  | .halted _ => true

/-- Write bytes at ascending addresses from `addr` on, modulo 65536: how a program comes into memory (R303). -/
def Memory.load (m : Memory) : Word → List Byte → Memory
  | _, [] => m
  | addr, b :: bs => Memory.load (m.write addr b) (addr + 1) bs

/-- Can the CPU reach Memory over the bus (R66). -/
def State.busReady (s : State) : Bool :=
  match findComponent s.registry "Memory" with
  | some r => r.handle == .memory && !r.inFlight
  | none => false

end Sys2Proof.Machine
end

