-- ==== Sys2Proof/Machine/Step.lean ====
section
/-! DEFINITION. `Step()`, the one transition of the core (spec/40_step_and_addressing.md R110). -/

namespace Sys2Proof.Machine

/-- `Step()` (R110): the run-state gate, then an interrupt or an instruction. -/
def step (s : State) : Host.Outcome State Fault Refusal :=
  if s.run.isHalted then .next (ignoredStep s) else activeStep s

/-- `s` with an instruction stored at PC, where the next step fetches, and with nothing that would keep the step from fetching it: not
halted, no interrupt to take, Memory on the bus. On `State.reset` only memory changes (log 3). -/
def State.withFetchWord (s : State) (nbits w : Nat) : State :=
  { s with
    mem := s.mem.load s.pc (tableWordBytes nbits w)
    run := if s.run.isHalted then .ready else s.run
    nmiPending := false
    irqPending := s.irqPending && s.p.i
    registry := if s.busReady then s.registry else scopedRegistry }

end Sys2Proof.Machine
end

