-- ==== Sys2Proof/Machine/Entry.lean ====
section
/-! DEFINITION. The entry points of the host (spec/60_exceptions.md R262, R286; spec/70_reset_and_hazards.md R300, R301, R303;
spec/10_state.md R37). All of them act between steps (D28). -/

namespace Sys2Proof.Machine

/-- Power-on (R35, R301): no memory is read and PC is 0. `image` is `InitialMemory` (R6, D23). -/
def State.powerOn (cfg : Config) (image : Memory) : State where
  a := 0x00
  x := 0x00
  y := 0x00
  sp := 0xFD
  p := Status.reset
  pc := 0x0000
  run := .ready
  nmiPending := false
  irqPending := false
  mem := image
  registry := scopedRegistry
  debugEnabled := false
  cfg := cfg
  obs := Observed.empty

/-- The registers, the flags and the latches at their power-on values, before the reset vector is read (R300). -/
def State.initRegisters (s : State) : State :=
  ((((((s.setA 0x00).setX 0x00).setY 0x00).setP Status.reset).setSp 0xFD).setNmiPending false).setIrqPending false

/-- `reset()` (R300), accepted in every run state: memory and the registry stay, PC comes from the vector at 0xFFFC. -/
def hostReset (s : State) : Host.Outcome State Fault Refusal :=
  andThen (read16 resetVector s.clearObs.initRegisters) fun (target, s) => .next ((s.setPc target).setRun .ready)

/-- `request_interrupt(kind)` (R262): set the latch of the kind, in any run state; nothing else changes. -/
def requestInterrupt (k : InterruptKind) (s : State) : State := s.setPending k true

/-- The host's write of P (R37): every flag, Break too; Unused stays 1 (R26). -/
def hostWriteP (v : Byte) (s : State) : State := s.setP (Status.ofByte v)

/-- One move of the host between two steps. -/
inductive HostMove
  /-- `request_interrupt(kind)` (R262). -/
  | request (k : InterruptKind)
  /-- `reset` (R300). -/
  | reset
  /-- A register mutator (R37). -/
  | writeReg (r : Register) (v : Byte)
  /-- The mutator of PC (R37). -/
  | writePc (w : Word)
  /-- The mutator of the flags (R37). -/
  | writeP (v : Byte)
  /-- Switch debugging on or off (R31). -/
  | debug (on : Bool)
  /-- `register(name, handle)` (R65). -/
  | register (name : String) (handle : Component)
  deriving DecidableEq, Repr

/-- The effect of a host move. -/
def applyMove (m : HostMove) (s : State) : Host.Outcome State Fault Refusal :=
  match m with
  | .request k => .next (requestInterrupt k s)
  | .reset => hostReset s
  | .writeReg r v => .next (s.setReg r v)
  | .writePc w => .next (s.setPc w)
  | .writeP v => .next (hostWriteP v s)
  | .debug on => .next (s.setDebugEnabled on)
  | .register name handle => registerComponent name handle s

/-- The loop of `run()` (R286): step "until RunState ≠ Running or r is an Error". `none` when `fuel` steps did not end it: the loop has no bound
of its own. -/
def runLoop : Nat → State → Option (Host.Outcome State Fault Refusal)
  | 0, _ => none
  | fuel + 1, s =>
    match step s with
    | .next t => if t.run = .running then runLoop fuel t else some (.next t)
    | .fault f => some (.fault f)
    | .refused r => some (.refused r)

/-- `run()` (R286), with at most `fuel` steps. -/
def run (fuel : Nat) (s : State) : Option (Host.Outcome State Fault Refusal) :=
  if s.run.isHalted then some (.next s) else runLoop fuel s

end Sys2Proof.Machine
end

