-- ==== Sys2Proof/Safety.lean ====
section
/-! DEFINITION. What claims are stated in: the scoped platform, the machine's invariant, and how a run ends (spec/60_exceptions.md R287). -/

namespace Sys2Proof.Machine

/-- The scoped platform (spec/10_state.md R32, D17): exactly "CPU" and "Memory", and no transaction in flight. -/
abbrev State.Scoped (s : State) : Prop := s.registry = scopedRegistry

/-- Memory answers the CPU: all that an instruction needs of the registry to complete (spec/20_memory.md R66). Weaker than `Scoped`. -/
abbrev State.MemoryReady (s : State) : Prop := s.busReady = true

/-- The run states the core's own rules produce (R260, C6): never Halted(Reset), Halted(IRQ) or Halted(NMI). -/
def RunState.produced : RunState → Bool
  | .ready => true
  | .running => true
  | .halted .brk => true
  | .halted .illegalOpcode => true
  | .halted .reset => false
  | .halted .irq => false
  | .halted .nmi => false

/-- The invariant of a machine whose host has not set the live Break bit: memory in canonical form, Memory on the bus, a run state the core can
produce, and P.B = 0 (R27). -/
abbrev State.Inv (s : State) : Prop :=
  s.mem.wf = true ∧ s.MemoryReady ∧ s.run.produced = true ∧ s.p.b = false

/-- "Only `Halted(BRK)` is a normal end" (R287). -/
abbrev State.NormalEnd (s : State) : Prop := s.run = .halted .brk

/-- The other end of a run that is a state (R287): it "is not a normal end of a run" (U3). -/
abbrev State.IllegalEnd (s : State) : Prop := s.run = .halted .illegalOpcode

/-- A computation answers a next state, and that state is `expected` in everything but the model's outputs: it says at once that the
computation completes, what it changes, and that it changes nothing else. -/
def CompletesAs (r : Host.Outcome State Fault Refusal) (expected : State) : Prop :=
  ∃ t, r = .next t ∧ t.arch = expected.arch

/-- A computation answers `v`, and leaves the state `expected` in everything but the model's outputs. -/
def AnswersAs {α : Type} (r : Host.Outcome (α × State) Fault Refusal) (v : α) (expected : State) : Prop :=
  ∃ t, r = .next (v, t) ∧ t.arch = expected.arch

/-- A run is safe up to `n` steps when none of them faults or is refused. -/
def SafeFor (n : Nat) (s : State) : Prop := ∃ t, Sys2Proof.core.run n s = .next t

end Sys2Proof.Machine
end

