-- ==== Sys2Proof/Certificates/Slice0/Obligations.lean ====
section
/-! DEFINITION. The statements for the provers. Each docstring names the rule of the spec it formalises, or says that a clause is the spec's own
choice (its `[decision]`, `[derived]` and general-knowledge passages, log 14) or the model's (the log entry). Expected states are written as
record updates of the start state, so that everything not named is unchanged; `CompletesAs` says that the computation answers a next state equal
to the expected one in everything but the model's outputs (log 9). -/

namespace Sys2Proof.Claims

open Sys2Proof.Machine

/-- Z and N as SetZN(v) leaves them (R125). -/
def znOf (p : Status) (v : Byte) : Status := { p with z := decide (v = 0), n := v.getLsbD 7 }

/-- `exec i s` completes as `e`. -/
def Gives (i : Instr) (s e : State) : Prop := CompletesAs (exec i s) e

/-- Every byte reads after `exec i s` as before it, except the one at `addr`, which reads `v`. -/
def StoresOnly (i : Instr) (s : State) (addr : Word) (v : Byte) : Prop :=
  s.mem.wf = true → ∀ t, exec i s = .next t → ∀ b, t.mem.read b = if b = addr then v else s.mem.read b

/-- The handler's effective address is `m.address s`. -/
def Resolves (m : MemOperand) (s : State) : Prop := AnswersAs (effectiveAddress m s) (m.address s, m.crosses s) s

def LoadsA (i : Instr) (o : ReadOperand) (s : State) : Prop := Gives i s { s with a := o.value s, p := znOf s.p (o.value s) }

def LoadsX (i : Instr) (o : ReadOperand) (s : State) : Prop := Gives i s { s with x := o.value s, p := znOf s.p (o.value s) }

def LoadsY (i : Instr) (o : ReadOperand) (s : State) : Prop := Gives i s { s with y := o.value s, p := znOf s.p (o.value s) }

/-- `i` stores `v` at the address of `m` and does nothing else. -/
def Stores (i : Instr) (m : MemOperand) (v : Byte) (s : State) : Prop :=
  Resolves m s ∧ Gives i s { s with mem := s.mem.write (m.address s) v } ∧ StoresOnly i s (m.address s) v

/-- `i` replaces the byte `v` at the address of `m` by `f v` and leaves P as `g v`. -/
def Modifies (i : Instr) (m : MemOperand) (f : Byte → Byte) (g : Byte → Status) (s : State) : Prop :=
  Resolves m s ∧
  Gives i s { s with mem := s.mem.write (m.address s) (f (s.mem.read (m.address s))), p := g (s.mem.read (m.address s)) } ∧
  StoresOnly i s (m.address s) (f (s.mem.read (m.address s)))

/-- Binary ADC of `m` to A, over the integers (R150, R152). -/
def addsBinary (s : State) (m : Byte) : State :=
  let r := BitVec.ofNat 8 (s.a.toNat + m.toNat + s.p.c.toNat)
  { s with
    a := r
    p := { znOf s.p r with
      c := decide (255 < s.a.toNat + m.toNat + s.p.c.toNat)
      v := decide (s.a.toInt + m.toInt + s.p.c.toNat < -128 ∨ 127 < s.a.toInt + m.toInt + s.p.c.toNat) } }

/-- Binary SBC of `m` from A, over the integers (R151, R153). -/
def subtractsBinary (s : State) (m : Byte) : State :=
  let r := BitVec.ofInt 8 ((s.a.toNat : Int) - m.toNat - (1 - s.p.c.toNat))
  { s with
    a := r
    p := { znOf s.p r with
      c := decide ((0 : Int) ≤ (s.a.toNat : Int) - m.toNat - (1 - s.p.c.toNat))
      v := decide (s.a.toInt - m.toInt - (1 - s.p.c.toNat) < -128 ∨ 127 < s.a.toInt - m.toInt - (1 - s.p.c.toNat)) } }

/-- Both nibbles of a byte are at most 9 (R154). -/
def IsBcd (b : Byte) : Prop := b.toNat / 16 ≤ 9 ∧ b.toNat % 16 ≤ 9

/-- The decimal value of a byte (R154). -/
def decimalValue (b : Byte) : Int := 10 * (b.toNat / 16) + b.toNat % 16

/-- The byte with high nibble `t div 10` and low nibble `t mod 10`, for `t` taken modulo 100 (R154, R155). -/
def decimalByte (t : Int) : Byte := BitVec.ofInt 8 (16 * (t % 100 / 10) + t % 100 % 10)

/-- A decimal result and carry: A, C, Z and N are written, V is not (R150, R151, R154). -/
def decimally (s : State) (r : Byte) (carry : Bool) : State :=
  { s with a := r, p := { znOf s.p r with c := carry } }

/-- Decimal ADC of `m` to A (R154). -/
def addsDecimal (s : State) (m : Byte) : State :=
  decimally s (decimalByte (decimalValue s.a + decimalValue m + s.p.c.toNat))
    (decide (99 < decimalValue s.a + decimalValue m + s.p.c.toNat))

/-- Decimal SBC of `m` from A (R155). -/
def subtractsDecimal (s : State) (m : Byte) : State :=
  decimally s (decimalByte (decimalValue s.a - decimalValue m - (1 - s.p.c.toNat)))
    (decide (0 ≤ decimalValue s.a - decimalValue m - (1 - s.p.c.toNat)))

/-- A, C, Z and N from `DecimalInvalid`; V unchanged (R154, U2, log 5). -/
def undefinedDecimal (s : State) (res : DecimalResult) : State :=
  { s with a := res.r, p := { s.p with c := res.carry, z := res.z, n := res.n } }

/-- Every category of ADC satisfies `Q`, given its operand. -/
def EachAdc (Q : Instr → ReadOperand → Prop) : Prop :=
  (∀ v, Q (.adcImm v) (.immediate v)) ∧
  (∀ z, Q (.adcZp z) (.mem (.zeroPage z))) ∧ (∀ z, Q (.adcZpx z) (.mem (.zeroPageX z))) ∧
  (∀ w, Q (.adcAbs w) (.mem (.absolute w))) ∧ (∀ w, Q (.adcAbx w) (.mem (.absoluteX w))) ∧
  (∀ w, Q (.adcAby w) (.mem (.absoluteY w))) ∧
  (∀ z, Q (.adcIzx z) (.mem (.indirectX z))) ∧ (∀ z, Q (.adcIzy z) (.mem (.indirectY z)))

/-- Every category of SBC satisfies `Q`, given its operand. -/
def EachSbc (Q : Instr → ReadOperand → Prop) : Prop :=
  (∀ v, Q (.sbcImm v) (.immediate v)) ∧
  (∀ z, Q (.sbcZp z) (.mem (.zeroPage z))) ∧ (∀ z, Q (.sbcZpx z) (.mem (.zeroPageX z))) ∧
  (∀ w, Q (.sbcAbs w) (.mem (.absolute w))) ∧ (∀ w, Q (.sbcAbx w) (.mem (.absoluteX w))) ∧
  (∀ w, Q (.sbcAby w) (.mem (.absoluteY w))) ∧
  (∀ z, Q (.sbcIzx z) (.mem (.indirectX z))) ∧ (∀ z, Q (.sbcIzy z) (.mem (.indirectY z)))

/-- A logical instruction writes `r` to A and sets Z and N from it. -/
def Combines (i : Instr) (r : Byte) (s : State) : Prop := Gives i s { s with a := r, p := znOf s.p r }

/-- BIT's flags from A and the memory byte (R173). -/
def bitFlags (s : State) (m : Byte) : State :=
  { s with p := { s.p with z := decide (s.a &&& m = 0), n := m.getLsbD 7, v := m.getLsbD 6 } }

/-- P after a shift of a byte to `r` with `c` shifted out. -/
def shiftedP (p : Status) (r : Byte) (c : Bool) : Status := { znOf p r with c := c }

/-- ASL's result, by arithmetic (R180). -/
def aslOf (v : Byte) : Byte := BitVec.ofNat 8 (2 * v.toNat)

/-- LSR's result, by arithmetic (R181). -/
def lsrOf (v : Byte) : Byte := BitVec.ofNat 8 (v.toNat / 2)

/-- ROL's result, by arithmetic (R182). -/
def rolOf (cin : Bool) (v : Byte) : Byte := BitVec.ofNat 8 (2 * v.toNat + cin.toNat)

/-- ROR's result, by arithmetic (R183). -/
def rorOf (cin : Bool) (v : Byte) : Byte := BitVec.ofNat 8 (v.toNat / 2 + 128 * cin.toNat)

/-- The bit a left shift puts out: the byte is 128 or more. -/
def topOut (v : Byte) : Bool := decide (128 ≤ v.toNat)

/-- The bit a right shift puts out: the byte is odd. -/
def lowOut (v : Byte) : Bool := decide (v.toNat % 2 = 1)

/-- A shift in Accumulator mode. -/
def ShiftsA (i : Instr) (f : Byte → Byte) (out : Byte → Bool) (s : State) : Prop :=
  Gives i s { s with a := f s.a, p := shiftedP s.p (f s.a) (out s.a) }

/-- A shift of a memory cell. -/
def ShiftsM (i : Instr) (m : MemOperand) (f : Byte → Byte) (out : Byte → Bool) (s : State) : Prop :=
  Modifies i m f (fun v => shiftedP s.p (f v) (out v)) s

/-- C, Z and N of a compare; nothing else changes (R193). -/
def Compares (i : Instr) (reg m : Byte) (s : State) : Prop :=
  Gives i s { s with p := { s.p with c := decide (m.toNat ≤ reg.toNat), z := decide (reg = m), n := (reg - m).getLsbD 7 } }

/-- PC is the only thing a branch changes, and only if the test passes (R200). -/
def Branches (i : Instr) (test : Bool) (off : Byte) (s : State) : Prop :=
  Gives i s (if test then { s with pc := s.pc + off.signExtend 16 } else s)

/-- A flag instruction leaves everything but P. -/
def SetsP (i : Instr) (p : Status) (s : State) : Prop := Gives i s { s with p := p }

/-- The address of the stack slot `n` below S. -/
def slot (s : State) (n : Byte) : Word := 0x0100 ||| (s.sp - n).zeroExtend 16

/-- The address of the stack slot `n` above S. -/
def slotUp (s : State) (n : Byte) : Word := 0x0100 ||| (s.sp + n).zeroExtend 16

/-- Memory after pushing a 16-bit value, high byte first (R128). -/
def pushedWord (s : State) (w : Word) : Memory :=
  (s.mem.write (slot s 0) (w.extractLsb' 8 8)).write (slot s 1) (w.extractLsb' 0 8)

/-- The 16-bit little-endian value at `addr` (R62). -/
def wordAt (m : Memory) (addr : Word) : Word := m.read (addr + 1) ++ m.read addr

/-- Memory after the three pushes of an interrupt entry or a BRK (R240, R265). -/
def pushedFrame (s : State) (ret : Word) (status : Byte) : Memory := (pushedWord s ret).write (slot s 2) status

/-- Not halted, and no interrupt will be taken: the next step executes an instruction (R110, R264). -/
def Executing (s : State) : Prop :=
  s.run.isHalted = false ∧ s.nmiPending = false ∧ (s.irqPending = false ∨ s.p.i = true)

/-- The three bytes from PC on. -/
def bytesAtPc (s : State) : List Byte := [s.mem.read s.pc, s.mem.read (s.pc + 1), s.mem.read (s.pc + 2)]

/-- The instruction at PC is `i`. -/
def At (i : Instr) (s : State) : Prop := ∃ rest, decode s.cfg (bytesAtPc s) = .ok i rest

/-- A step that executes `i` reports `cycles`. -/
def Reports (i : Instr) (s : State) (cycles : Nat) : Prop :=
  s.MemoryReady → Executing s → At i s → ∃ t, step s = .next t ∧ t.obs.result = some (.executed cycles)

/-- The two bus reads of a zero-page pointer, low byte first (R133). -/
def pointerReads (z : Byte) (s : State) : List BusTransaction :=
  [⟨z.zeroExtend 16, s.mem.read (z.zeroExtend 16), .read⟩,
    ⟨(z + 1).zeroExtend 16, s.mem.read ((z + 1).zeroExtend 16), .read⟩]

/-- The bus reads of resolving an operand in memory (R133, group 2). -/
def resolveReads (m : MemOperand) (s : State) : List BusTransaction :=
  match m with
  | .indirectX z => pointerReads (z + s.x) s
  | .indirectY z => pointerReads z s
  | .zeroPage _ | .zeroPageX _ | .zeroPageY _ | .absolute _ | .absoluteX _ | .absoluteY _ => []

/-- A computation on the state answers a next state whose trace is that of `s` followed by `ts`. -/
def Traces (r : Host.Outcome State Fault Refusal) (s : State) (ts : List BusTransaction) : Prop :=
  ∃ t, r = .next t ∧ t.obs.trace = s.obs.trace ++ ts

/-- The bytes R100 lists as illegal. -/
def illegalBytes : List Byte :=
  [0x02, 0x03, 0x04, 0x07, 0x0B, 0x0C, 0x0F, 0x12, 0x13, 0x14, 0x17, 0x1A, 0x1B, 0x1C, 0x1F] ++
  [0x22, 0x23, 0x27, 0x2B, 0x2F, 0x32, 0x33, 0x34, 0x37, 0x3A, 0x3B, 0x3C, 0x3F, 0x42, 0x43] ++
  [0x44, 0x47, 0x4B, 0x4F, 0x52, 0x53, 0x54, 0x57, 0x5A, 0x5B, 0x5C, 0x5F, 0x62, 0x63, 0x64] ++
  [0x67, 0x6B, 0x6F, 0x72, 0x73, 0x74, 0x77, 0x7A, 0x7B, 0x7C, 0x7F, 0x80, 0x82, 0x83, 0x87] ++
  [0x89, 0x8B, 0x8F, 0x92, 0x93, 0x97, 0x9B, 0x9C, 0x9E, 0x9F, 0xA3, 0xA7, 0xAB, 0xAF, 0xB2] ++
  [0xB3, 0xB7, 0xBB, 0xBF, 0xC2, 0xC3, 0xC7, 0xCB, 0xCF, 0xD2, 0xD3, 0xD4, 0xD7, 0xDA, 0xDB] ++
  [0xDC, 0xDF, 0xE2, 0xE3, 0xE7, 0xEB, 0xEF, 0xF2, 0xF3, 0xF4, 0xF7, 0xFA, 0xFB, 0xFC, 0xFF]

/-- The bytes that join them if `HAS_TRANSFER_GROUP` is false (R100). -/
def transferBytes : List Byte := [0x8A, 0x98, 0x9A, 0xA8, 0xAA, 0xBA]

/-- The instructions R28 lists as writers of C. -/
def writesC : List Mnemonic :=
  [.adc, .sbc, .asl, .lsr, .rol, .ror, .cmp, .cpx, .cpy, .clc, .sec, .plp, .rti]

/-- The instructions R28 lists as writers of Z. -/
def writesZ : List Mnemonic :=
  [.lda, .ldx, .ldy, .adc, .sbc, .inc, .dec, .inx, .iny, .dex, .dey, .and, .ora, .eor, .bit, .asl, .lsr, .rol, .ror] ++
  [.cmp, .cpx, .cpy, .pla, .tax, .tay, .txa, .tya, .tsx, .plp, .rti]

/-- The instructions R28 lists as writers of I. -/
def writesI : List Mnemonic := [.sei, .cli, .brk, .plp, .rti]

/-- The instructions R28 lists as writers of D. -/
def writesD : List Mnemonic := [.sed, .cld, .plp, .rti]

/-- The instructions R28 lists as writers of V. -/
def writesV : List Mnemonic := [.adc, .sbc, .bit, .clv, .plp, .rti]

/-- The instructions that may write A (R20). -/
def writesA : List Mnemonic :=
  [.lda, .adc, .sbc, .and, .ora, .eor, .asl, .lsr, .rol, .ror, .pla, .txa, .tya]

/-- The instructions that may write X (R21). -/
def writesX : List Mnemonic := [.ldx, .inx, .dex, .tax, .tsx]

/-- The instructions that may write Y (R22). -/
def writesY : List Mnemonic := [.ldy, .iny, .dey, .tay]

/-- The instructions that may write S (R23): every push and pull, and TXS. -/
def writesS : List Mnemonic := [.pha, .pla, .php, .plp, .jsr, .rts, .brk, .rti, .txs]

/-- The instructions that may write PC after the fetch (R24). -/
def writesPc : List Mnemonic := [.bcc, .bcs, .beq, .bne, .bmi, .bpl, .bvc, .bvs, .jmp, .jsr, .rts, .rti]

/-- The instructions that may write memory. -/
def writesMem : List Mnemonic :=
  [.sta, .stx, .sty, .inc, .dec, .asl, .lsr, .rol, .ror, .pha, .php, .jsr, .brk]

end Sys2Proof.Claims

open Sys2Proof Sys2Proof.Machine Sys2Proof.Claims

/-! ### Encoding -/

/-- A few words of each format written out from R98 decode to the instructions they stand for (opcode bytes are the spec's own, G1, log 14). -/
def Obligations.WordsOfTheTableDecode : Prop :=
  decode Config.default [0xA9, 0x10] = .ok (.ldaImm 0x10) [] ∧
  decode Config.default [0xB1, 0x42] = .ok (.ldaIzy 0x42) [] ∧
  decode Config.default [0x9D, 0x34, 0x12] = .ok (.staAbx 0x1234) [] ∧
  decode Config.default [0x6C, 0x00, 0x03] = .ok (.jmpInd 0x0300) [] ∧
  decode Config.default [0xD0, 0xFB] = .ok (.bne 0xFB) [] ∧
  decode Config.default [0x6A, 0xEA] = .ok .rorAcc [0xEA] ∧
  decode Config.default [0x00] = .ok .brk [] ∧
  decode Config.default [0x02] = .rejected (.illegalOpcode 0x02)

/-- Decoding an encoded well-formed instruction gives it back, whatever follows it, under every parameter value. The opcode bytes of `encode` are
R99's, those of `decode` R98's (both the spec's own, G1, log 14). -/
def Obligations.DecodeOfEncodeGivesInstruction : Prop :=
  ∀ (cfg : Config) (i : Instr) (rest : List Byte), i.wellFormed cfg = true → decode cfg (encode i ++ rest) = .ok i rest

/-- The other direction: whatever bytes decode to an instruction are its encoding, and the instruction is well formed (R93, G1, log 14). -/
def Obligations.DecodedBytesAreTheEncoding : Prop :=
  ∀ (cfg : Config) (bs : List Byte) (i : Instr) (rest : List Byte), decode cfg bs = .ok i rest →
    bs = encode i ++ rest ∧ i.wellFormed cfg = true

/-- Every populated entry consumes 1 + operand_size bytes, and the decoded instruction has the entry's operation and category (R90, R94, E1).
That a list which ends early is rejected is the model's (log 12). -/
def Obligations.EntrySizesTheInstruction : Prop :=
  ∀ (cfg : Config) (op : Byte) (bs : List Byte) (e : OpcodeEntry), opcodeEntry cfg op = some e →
    e.mode.operandBytes ≤ bs.length →
    ∃ i, decode cfg (op :: bs) = .ok i (bs.drop e.mode.operandBytes) ∧ i.operand.mode = e.mode ∧ i.mnemonic = e.mnemonic ∧
      i.operand.bytes = bs.take e.mode.operandBytes

/-- The unpopulated slots are exactly the 105 bytes R100 lists, and the six transfers too if `HAS_TRANSFER_GROUP` is false (G1, D2, log 14). -/
def Obligations.IllegalOpcodesAreThoseListed : Prop :=
  ∀ (cfg : Config) (op : Byte), opcodeEntry cfg op = none ↔
    op ∈ illegalBytes ∨ (cfg.hasTransferGroup = false ∧ op ∈ transferBytes)

/-! ### Flags, stack, memory, bus -/

/-- R25, R26: the status byte bit by bit; Unused reads 1 (the positions are the spec's own, D3, log 14). -/
def Obligations.StatusByteLayout : Prop :=
  ∀ p : Status, p.toByte.getLsbD 0 = p.c ∧ p.toByte.getLsbD 1 = p.z ∧ p.toByte.getLsbD 2 = p.i ∧ p.toByte.getLsbD 3 = p.d ∧
    p.toByte.getLsbD 4 = p.b ∧ p.toByte.getLsbD 5 = true ∧ p.toByte.getLsbD 6 = p.v ∧ p.toByte.getLsbD 7 = p.n

/-- The host's write of P gives the byte written with Unused forced to 1, Break as written, and changes nothing else (R26, R37). -/
def Obligations.HostWriteOfPKeepsUnusedSet : Prop :=
  ∀ (v : Byte) (s : State), (hostWriteP v s).p.toByte = v ||| 0x20 ∧ hostWriteP v s = { s with p := (hostWriteP v s).p }

/-- R125: SetZN writes Z and N from the byte and no other flag, and nothing else. -/
def Obligations.SetZNWritesZAndNOnly : Prop :=
  ∀ (v : Byte) (s : State), s.setZN v = { s with p := { s.p with z := decide (v = 0), n := v.getLsbD 7 } }

/-- R126: a push writes the byte at `0x0100 | S` and then decrements S modulo 256; no other byte and nothing else changes. -/
def Obligations.PushWritesThenDecrements : Prop :=
  ∀ (v : Byte) (s : State), s.MemoryReady →
    CompletesAs (push8 v s) { s with mem := s.mem.write (0x0100 ||| s.sp.zeroExtend 16) v, sp := s.sp - 1 } ∧
    (s.mem.wf = true → ∀ t, push8 v s = .next t →
      ∀ b, t.mem.read b = if b = 0x0100 ||| s.sp.zeroExtend 16 then v else s.mem.read b)

/-- R127: a pull increments S modulo 256 and answers the byte at the new `0x0100 | S`; and a pull right after a push answers the byte pushed and
restores S. -/
def Obligations.PullIncrementsThenReads : Prop :=
  ∀ s : State, s.MemoryReady →
    AnswersAs (pull8 s) (s.mem.read (0x0100 ||| (s.sp + 1).zeroExtend 16)) { s with sp := s.sp + 1 } ∧
    (s.mem.wf = true → ∀ (v : Byte) (t : State), push8 v s = .next t →
      ∃ u, pull8 t = .next (v, u) ∧ u.sp = s.sp)

/-- R128 and R129: a 16-bit push puts the high byte at `0x0100 | S` and the low byte at `0x0100 | (S - 1)`, each address formed separately;
a 16-bit pull takes the low byte first; a pull right after a push answers the value and restores S. -/
def Obligations.WordPushAndPull : Prop :=
  ∀ s : State, s.MemoryReady →
    (∀ w, CompletesAs (push16 w s) { s with mem := pushedWord s w, sp := s.sp - 2 }) ∧
    AnswersAs (pull16 s) (s.mem.read (slotUp s 2) ++ s.mem.read (slotUp s 1)) { s with sp := s.sp + 2 } ∧
    (s.mem.wf = true → ∀ w t, push16 w s = .next t → ∃ u, pull16 t = .next (w, u) ∧ u.sp = s.sp)

/-- R116 to R123: the effective address of each category, and when a page is crossed; nothing but the outputs changes. -/
def Obligations.EffectiveAddresses : Prop :=
  ∀ s : State, s.MemoryReady →
    (∀ z, AnswersAs (effectiveAddress (.zeroPage z) s) (z.zeroExtend 16, false) s) ∧
    (∀ z, AnswersAs (effectiveAddress (.zeroPageX z) s) ((z + s.x).zeroExtend 16, false) s) ∧
    (∀ z, AnswersAs (effectiveAddress (.zeroPageY z) s) ((z + s.y).zeroExtend 16, false) s) ∧
    (∀ w, AnswersAs (effectiveAddress (.absolute w) s) (w, false) s) ∧
    (∀ w, AnswersAs (effectiveAddress (.absoluteX w) s)
      (BitVec.ofNat 16 (w.toNat + s.x.toNat),
        decide ((w.toNat + s.x.toNat) % 65536 / 256 ≠ w.toNat / 256)) s) ∧
    (∀ w, AnswersAs (effectiveAddress (.absoluteY w) s)
      (BitVec.ofNat 16 (w.toNat + s.y.toNat),
        decide ((w.toNat + s.y.toNat) % 65536 / 256 ≠ w.toNat / 256)) s) ∧
    (∀ z, AnswersAs (effectiveAddress (.indirectX z) s)
      (s.mem.read ((z + s.x + 1).zeroExtend 16) ++ s.mem.read ((z + s.x).zeroExtend 16), false) s) ∧
    (∀ z, AnswersAs (effectiveAddress (.indirectY z) s)
      (let base := s.mem.read ((z + 1).zeroExtend 16) ++ s.mem.read (z.zeroExtend 16)
       (BitVec.ofNat 16 (base.toNat + s.y.toNat),
        decide ((base.toNat + s.y.toNat) % 65536 / 256 ≠ base.toNat / 256))) s)

/-- R66, R67, R70: `execute` with an unregistered destination, with no direction, with a taken guard, and with Memory as the destination, for any
initiator. The order of the checks is the model's (log 7), and so is it that the errors of direction and guard carry nothing (log 15); a
transaction to the CPU is refused (D35, log 8). -/
def Obligations.ExecuteRoutesToTheDestination : Prop :=
  ∀ (initiator destination : String) (t : BusTransaction) (s : State),
    (findComponent s.registry destination = none →
      busExecute initiator destination t s = .fault (.bus (.componentNotFound destination) s)) ∧
    (∀ r, findComponent s.registry destination = some r → t.operation = .none →
      busExecute initiator destination t s = .fault (.bus .invalidTransaction s)) ∧
    (∀ r, findComponent s.registry destination = some r → t.operation ≠ .none → r.inFlight = true →
      busExecute initiator destination t s = .fault (.bus .lockFailed s)) ∧
    (∀ r, findComponent s.registry destination = some r → t.operation ≠ .none → r.inFlight = false → r.handle = .cpu →
      busExecute initiator destination t s = .refused .transactionToCpu) ∧
    (∀ r, findComponent s.registry destination = some r → r.inFlight = false → r.handle = .memory → t.operation = .read →
      AnswersAs (busExecute initiator destination t s) { t with data := s.mem.read t.address } s) ∧
    (∀ r, findComponent s.registry destination = some r → r.inFlight = false → r.handle = .memory → t.operation = .write →
      AnswersAs (busExecute initiator destination t s) t { s with mem := s.mem.write t.address t.data })

/-- The bus round trip of R58: a write followed by a read of the same address returns the value, and a read of another address what it returned
before, in every state that has canonical memory and Memory on the bus. -/
def Obligations.BusRoundTrip : Prop :=
  ∀ (addr other : Word) (v d : Byte) (s t : State), s.MemoryReady → s.mem.wf = true →
    (∃ r, busExecute "CPU" "Memory" ⟨addr, v, .write⟩ s = .next (r, t)) →
    (∃ u, busExecute "CPU" "Memory" ⟨addr, d, .read⟩ t = .next (⟨addr, v, .read⟩, u)) ∧
    (other ≠ addr → ∃ u, busExecute "CPU" "Memory" ⟨other, d, .read⟩ t = .next (⟨other, s.mem.read other, .read⟩, u))

/-- R65: registering a name that is registered fails and the registry is unchanged; otherwise the registry gains the name with that handle, every
other name keeps its handle, and nothing else changes. -/
def Obligations.RegisterRejectsDuplicates : Prop :=
  ∀ (name : String) (handle : Component) (s : State),
    (∀ r, findComponent s.registry name = some r →
      registerComponent name handle s = .fault (.bus (.duplicateComponent name) s)) ∧
    (findComponent s.registry name = none →
      ∃ t, registerComponent name handle s = .next t ∧ t = { s with registry := t.registry } ∧
        findComponent t.registry name = some ⟨name, handle, false⟩ ∧
        ∀ other, other ≠ name → findComponent t.registry other = findComponent s.registry other)

/-! ### The instructions: result, flags, frame and completion -/

/-- LDA, LDX and LDY complete, write the register and Z and N, and change nothing else (R140 to R142; the categories each has are the spec's
own, G1, log 14). -/
def Obligations.LoadsWriteRegisterAndZN : Prop :=
  ∀ s : State, s.MemoryReady →
    (∀ v, LoadsA (.ldaImm v) (.immediate v) s) ∧
    (∀ z, LoadsA (.ldaZp z) (.mem (.zeroPage z)) s) ∧ (∀ z, LoadsA (.ldaZpx z) (.mem (.zeroPageX z)) s) ∧
    (∀ w, LoadsA (.ldaAbs w) (.mem (.absolute w)) s) ∧ (∀ w, LoadsA (.ldaAbx w) (.mem (.absoluteX w)) s) ∧
    (∀ w, LoadsA (.ldaAby w) (.mem (.absoluteY w)) s) ∧
    (∀ z, LoadsA (.ldaIzx z) (.mem (.indirectX z)) s) ∧ (∀ z, LoadsA (.ldaIzy z) (.mem (.indirectY z)) s) ∧
    (∀ v, LoadsX (.ldxImm v) (.immediate v) s) ∧
    (∀ z, LoadsX (.ldxZp z) (.mem (.zeroPage z)) s) ∧ (∀ z, LoadsX (.ldxZpy z) (.mem (.zeroPageY z)) s) ∧
    (∀ w, LoadsX (.ldxAbs w) (.mem (.absolute w)) s) ∧ (∀ w, LoadsX (.ldxAby w) (.mem (.absoluteY w)) s) ∧
    (∀ v, LoadsY (.ldyImm v) (.immediate v) s) ∧
    (∀ z, LoadsY (.ldyZp z) (.mem (.zeroPage z)) s) ∧ (∀ z, LoadsY (.ldyZpx z) (.mem (.zeroPageX z)) s) ∧
    (∀ w, LoadsY (.ldyAbs w) (.mem (.absolute w)) s) ∧ (∀ w, LoadsY (.ldyAbx w) (.mem (.absoluteX w)) s)

/-- STA, STX and STY complete, write the register to the effective address, and change nothing else: no flag, no other byte (R143 to R145;
categories: G1, log 14). -/
def Obligations.StoresWriteOneByte : Prop :=
  ∀ s : State, s.MemoryReady →
    (∀ z, Stores (.staZp z) (.zeroPage z) s.a s) ∧ (∀ z, Stores (.staZpx z) (.zeroPageX z) s.a s) ∧
    (∀ w, Stores (.staAbs w) (.absolute w) s.a s) ∧ (∀ w, Stores (.staAbx w) (.absoluteX w) s.a s) ∧
    (∀ w, Stores (.staAby w) (.absoluteY w) s.a s) ∧
    (∀ z, Stores (.staIzx z) (.indirectX z) s.a s) ∧ (∀ z, Stores (.staIzy z) (.indirectY z) s.a s) ∧
    (∀ z, Stores (.stxZp z) (.zeroPage z) s.x s) ∧ (∀ z, Stores (.stxZpy z) (.zeroPageY z) s.x s) ∧
    (∀ w, Stores (.stxAbs w) (.absolute w) s.x s) ∧
    (∀ z, Stores (.styZp z) (.zeroPage z) s.y s) ∧ (∀ z, Stores (.styZpx z) (.zeroPageX z) s.y s) ∧
    (∀ w, Stores (.styAbs w) (.absolute w) s.y s)

/-- ADC and SBC with D clear complete with the wrapped sum or difference in A, the carry or no-borrow in C, the signed overflow in V, and Z and N
from the result (R150 to R153; the overflow formula and the inverted borrow are the spec's own, G7, D5, log 14). -/
def Obligations.BinaryAdcSbc : Prop :=
  ∀ s : State, s.MemoryReady → s.p.d = false →
    EachAdc (fun i o => Gives i s (addsBinary s (o.value s))) ∧
    EachSbc (fun i o => Gives i s (subtractsBinary s (o.value s)))

/-- ADC and SBC with D set, on valid BCD operands, complete with the decimal sum or difference, the decimal carry or no-borrow in C, Z and N from
the result and V unchanged (R154, R155; Z, N and the borrow are the spec's own, D5, D8, log 14). -/
def Obligations.DecimalAdcSbcOnValidOperands : Prop :=
  ∀ s : State, s.MemoryReady → s.p.d = true → IsBcd s.a →
    EachAdc (fun i o => IsBcd (o.value s) → Gives i s (addsDecimal s (o.value s))) ∧
    EachSbc (fun i o => IsBcd (o.value s) → Gives i s (subtractsDecimal s (o.value s)))

/-- ADC and SBC with D set, on an operand that is not valid BCD, complete with A, C, Z and N from the uninterpreted `DecimalInvalid` of the
operation, A, the operand and C, and V unchanged (R154, R155, U2, D8; the form of the free value is the model's, log 5). -/
def Obligations.DecimalAdcSbcOnInvalidOperands : Prop :=
  ∀ s : State, s.MemoryReady → s.p.d = true →
    EachAdc (fun i o => ¬ (IsBcd s.a ∧ IsBcd (o.value s)) →
      Gives i s (undefinedDecimal s (Config.decimalInvalid .add s.a (o.value s) s.p.c))) ∧
    EachSbc (fun i o => ¬ (IsBcd s.a ∧ IsBcd (o.value s)) →
      Gives i s (undefinedDecimal s (Config.decimalInvalid .sub s.a (o.value s) s.p.c)))

/-- AND, ORA and EOR complete, write A and Z and N, and change nothing else (R170 to R172; categories: G1, log 14). -/
def Obligations.LogicalWritesAAndZN : Prop :=
  ∀ s : State, s.MemoryReady →
    (∀ v, Combines (.andImm v) (s.a &&& v) s) ∧
    (∀ z, Combines (.andZp z) (s.a &&& (ReadOperand.mem (.zeroPage z)).value s) s) ∧
    (∀ z, Combines (.andZpx z) (s.a &&& (ReadOperand.mem (.zeroPageX z)).value s) s) ∧
    (∀ w, Combines (.andAbs w) (s.a &&& (ReadOperand.mem (.absolute w)).value s) s) ∧
    (∀ w, Combines (.andAbx w) (s.a &&& (ReadOperand.mem (.absoluteX w)).value s) s) ∧
    (∀ w, Combines (.andAby w) (s.a &&& (ReadOperand.mem (.absoluteY w)).value s) s) ∧
    (∀ z, Combines (.andIzx z) (s.a &&& (ReadOperand.mem (.indirectX z)).value s) s) ∧
    (∀ z, Combines (.andIzy z) (s.a &&& (ReadOperand.mem (.indirectY z)).value s) s) ∧
    (∀ v, Combines (.oraImm v) (s.a ||| v) s) ∧
    (∀ z, Combines (.oraZp z) (s.a ||| (ReadOperand.mem (.zeroPage z)).value s) s) ∧
    (∀ z, Combines (.oraZpx z) (s.a ||| (ReadOperand.mem (.zeroPageX z)).value s) s) ∧
    (∀ w, Combines (.oraAbs w) (s.a ||| (ReadOperand.mem (.absolute w)).value s) s) ∧
    (∀ w, Combines (.oraAbx w) (s.a ||| (ReadOperand.mem (.absoluteX w)).value s) s) ∧
    (∀ w, Combines (.oraAby w) (s.a ||| (ReadOperand.mem (.absoluteY w)).value s) s) ∧
    (∀ z, Combines (.oraIzx z) (s.a ||| (ReadOperand.mem (.indirectX z)).value s) s) ∧
    (∀ z, Combines (.oraIzy z) (s.a ||| (ReadOperand.mem (.indirectY z)).value s) s) ∧
    (∀ v, Combines (.eorImm v) (s.a ^^^ v) s) ∧
    (∀ z, Combines (.eorZp z) (s.a ^^^ (ReadOperand.mem (.zeroPage z)).value s) s) ∧
    (∀ z, Combines (.eorZpx z) (s.a ^^^ (ReadOperand.mem (.zeroPageX z)).value s) s) ∧
    (∀ w, Combines (.eorAbs w) (s.a ^^^ (ReadOperand.mem (.absolute w)).value s) s) ∧
    (∀ w, Combines (.eorAbx w) (s.a ^^^ (ReadOperand.mem (.absoluteX w)).value s) s) ∧
    (∀ w, Combines (.eorAby w) (s.a ^^^ (ReadOperand.mem (.absoluteY w)).value s) s) ∧
    (∀ z, Combines (.eorIzx z) (s.a ^^^ (ReadOperand.mem (.indirectX z)).value s) s) ∧
    (∀ z, Combines (.eorIzy z) (s.a ^^^ (ReadOperand.mem (.indirectY z)).value s) s)

/-- BIT completes; Z says whether A AND the memory byte is zero, N and V copy its bits 7 and 6, and nothing else changes, A least of all (R173;
categories: G1, D25, log 14). -/
def Obligations.BitTestsMemoryAgainstA : Prop :=
  ∀ s : State, s.MemoryReady →
    (∀ z, Gives (.bitZp z) s (bitFlags s ((ReadOperand.mem (.zeroPage z)).value s))) ∧
    (∀ w, Gives (.bitAbs w) s (bitFlags s ((ReadOperand.mem (.absolute w)).value s)))

/-- INC and DEC complete, add or subtract 1 modulo 256 in the one memory cell, write Z and N from the result, and change nothing else (R160,
R161; independence of D is the spec's own inference; categories: G1, log 14). -/
def Obligations.IncDecMemory : Prop :=
  ∀ s : State, s.MemoryReady →
    (∀ z, Modifies (.incZp z) (.zeroPage z) (· + 1) (fun v => znOf s.p (v + 1)) s) ∧
    (∀ z, Modifies (.incZpx z) (.zeroPageX z) (· + 1) (fun v => znOf s.p (v + 1)) s) ∧
    (∀ w, Modifies (.incAbs w) (.absolute w) (· + 1) (fun v => znOf s.p (v + 1)) s) ∧
    (∀ w, Modifies (.incAbx w) (.absoluteX w) (· + 1) (fun v => znOf s.p (v + 1)) s) ∧
    (∀ z, Modifies (.decZp z) (.zeroPage z) (· - 1) (fun v => znOf s.p (v - 1)) s) ∧
    (∀ z, Modifies (.decZpx z) (.zeroPageX z) (· - 1) (fun v => znOf s.p (v - 1)) s) ∧
    (∀ w, Modifies (.decAbs w) (.absolute w) (· - 1) (fun v => znOf s.p (v - 1)) s) ∧
    (∀ w, Modifies (.decAbx w) (.absoluteX w) (· - 1) (fun v => znOf s.p (v - 1)) s)

/-- INX, INY, DEX and DEY complete in every state, wrap modulo 256, write Z and N from the new value, and change nothing else (R162 to R165;
independence of D is the spec's own inference, log 14). -/
def Obligations.IncDecRegister : Prop :=
  ∀ s : State,
    Gives .inx s { s with x := s.x + 1, p := znOf s.p (s.x + 1) } ∧ Gives .iny s { s with y := s.y + 1, p := znOf s.p (s.y + 1) } ∧
    Gives .dex s { s with x := s.x - 1, p := znOf s.p (s.x - 1) } ∧ Gives .dey s { s with y := s.y - 1, p := znOf s.p (s.y - 1) }

/-- The shifts and rotates of A complete in every state, write A, C from the bit shifted out, and Z and N from the result, and change nothing
else (R180 to R183; the zero fill of ASL and LSR is the spec's own, D6, log 14). -/
def Obligations.ShiftsOfA : Prop :=
  ∀ s : State,
    ShiftsA .aslAcc aslOf topOut s ∧ ShiftsA .lsrAcc lsrOf lowOut s ∧
    ShiftsA .rolAcc (rolOf s.p.c) topOut s ∧ ShiftsA .rorAcc (rorOf s.p.c) lowOut s

/-- The shifts and rotates of a memory cell complete, write the one cell, C, Z and N, and change nothing else (R180 to R183; zero fill: D6;
categories: G1, log 14). -/
def Obligations.ShiftsOfMemory : Prop :=
  ∀ s : State, s.MemoryReady →
    (∀ z, ShiftsM (.aslZp z) (.zeroPage z) aslOf topOut s) ∧ (∀ z, ShiftsM (.aslZpx z) (.zeroPageX z) aslOf topOut s) ∧
    (∀ w, ShiftsM (.aslAbs w) (.absolute w) aslOf topOut s) ∧ (∀ w, ShiftsM (.aslAbx w) (.absoluteX w) aslOf topOut s) ∧
    (∀ z, ShiftsM (.lsrZp z) (.zeroPage z) lsrOf lowOut s) ∧ (∀ z, ShiftsM (.lsrZpx z) (.zeroPageX z) lsrOf lowOut s) ∧
    (∀ w, ShiftsM (.lsrAbs w) (.absolute w) lsrOf lowOut s) ∧ (∀ w, ShiftsM (.lsrAbx w) (.absoluteX w) lsrOf lowOut s) ∧
    (∀ z, ShiftsM (.rolZp z) (.zeroPage z) (rolOf s.p.c) topOut s) ∧
    (∀ z, ShiftsM (.rolZpx z) (.zeroPageX z) (rolOf s.p.c) topOut s) ∧
    (∀ w, ShiftsM (.rolAbs w) (.absolute w) (rolOf s.p.c) topOut s) ∧
    (∀ w, ShiftsM (.rolAbx w) (.absoluteX w) (rolOf s.p.c) topOut s) ∧
    (∀ z, ShiftsM (.rorZp z) (.zeroPage z) (rorOf s.p.c) lowOut s) ∧
    (∀ z, ShiftsM (.rorZpx z) (.zeroPageX z) (rorOf s.p.c) lowOut s) ∧
    (∀ w, ShiftsM (.rorAbs w) (.absolute w) (rorOf s.p.c) lowOut s) ∧
    (∀ w, ShiftsM (.rorAbx w) (.absoluteX w) (rorOf s.p.c) lowOut s)

/-- CMP, CPX and CPY complete and write only C (unsigned comparison), Z (equality) and N (bit 7 of the wrapped difference) (R190 to R193;
independence of D is the spec's own inference; categories: G1, log 14). -/
def Obligations.ComparesWriteCZN : Prop :=
  ∀ s : State, s.MemoryReady →
    (∀ v, Compares (.cmpImm v) s.a v s) ∧
    (∀ z, Compares (.cmpZp z) s.a ((ReadOperand.mem (.zeroPage z)).value s) s) ∧
    (∀ z, Compares (.cmpZpx z) s.a ((ReadOperand.mem (.zeroPageX z)).value s) s) ∧
    (∀ w, Compares (.cmpAbs w) s.a ((ReadOperand.mem (.absolute w)).value s) s) ∧
    (∀ w, Compares (.cmpAbx w) s.a ((ReadOperand.mem (.absoluteX w)).value s) s) ∧
    (∀ w, Compares (.cmpAby w) s.a ((ReadOperand.mem (.absoluteY w)).value s) s) ∧
    (∀ z, Compares (.cmpIzx z) s.a ((ReadOperand.mem (.indirectX z)).value s) s) ∧
    (∀ z, Compares (.cmpIzy z) s.a ((ReadOperand.mem (.indirectY z)).value s) s) ∧
    (∀ v, Compares (.cpxImm v) s.x v s) ∧
    (∀ z, Compares (.cpxZp z) s.x ((ReadOperand.mem (.zeroPage z)).value s) s) ∧
    (∀ w, Compares (.cpxAbs w) s.x ((ReadOperand.mem (.absolute w)).value s) s) ∧
    (∀ v, Compares (.cpyImm v) s.y v s) ∧
    (∀ z, Compares (.cpyZp z) s.y ((ReadOperand.mem (.zeroPage z)).value s) s) ∧
    (∀ w, Compares (.cpyAbs w) s.y ((ReadOperand.mem (.absolute w)).value s) s)

/-- The eight branches complete in every state; PC moves by the signed offset from the post-fetch PC if the flag has the expected value, and
nothing else changes (R200 to R208; which flag and value each tests is the spec's own, D34, log 14). -/
def Obligations.BranchesMoveOnlyPc : Prop :=
  ∀ (s : State) (off : Byte),
    Branches (.bcc off) (!s.p.c) off s ∧ Branches (.bcs off) s.p.c off s ∧
    Branches (.bne off) (!s.p.z) off s ∧ Branches (.beq off) s.p.z off s ∧
    Branches (.bpl off) (!s.p.n) off s ∧ Branches (.bmi off) s.p.n off s ∧
    Branches (.bvc off) (!s.p.v) off s ∧ Branches (.bvs off) s.p.v off s

/-- JMP completes: PC is the operand, or the little-endian value at it with a full 16-bit increment; nothing else changes (R209, R124; the
increment is the spec's own, D7, log 14). -/
def Obligations.JumpsSetPc : Prop :=
  ∀ (s : State) (w : Word),
    Gives (.jmpAbs w) s { s with pc := w } ∧
    (s.MemoryReady → Gives (.jmpInd w) s { s with pc := wordAt s.mem w })

/-- JSR completes: it pushes PC - 1, high byte first, and jumps; every byte but the two pushed reads as before, and nothing else changes
(R210, R128). -/
def Obligations.JsrPushesReturnAddress : Prop :=
  ∀ (s : State) (w : Word), s.MemoryReady →
    Gives (.jsr w) s { s with mem := pushedWord s (s.pc - 1), sp := s.sp - 2, pc := w } ∧
    (s.mem.wf = true → ∀ t, exec (.jsr w) s = .next t → ∀ b, t.mem.read b =
      if b = slot s 1 then (s.pc - 1).extractLsb' 0 8 else if b = slot s 0 then (s.pc - 1).extractLsb' 8 8
      else s.mem.read b)

/-- RTS completes: it pulls a 16-bit value, low byte first, and sets PC to that plus 1; nothing else changes (R211, R129). -/
def Obligations.RtsReturnsPastTheCall : Prop :=
  ∀ s : State, s.MemoryReady →
    Gives .rts s { s with sp := s.sp + 2, pc := (s.mem.read (slotUp s 2) ++ s.mem.read (slotUp s 1)) + 1 }

/-- PHA, PLA, PHP and PLP complete: what each pushes or pulls, PLA's Z and N, and PLP's flags with Break and Unused kept (R220 to R223; PLA's
flags are the spec's own, D32, log 14). -/
def Obligations.StackInstructions : Prop :=
  ∀ s : State, s.MemoryReady →
    Gives .pha s { s with mem := s.mem.write (slot s 0) s.a, sp := s.sp - 1 } ∧ StoresOnly .pha s (slot s 0) s.a ∧
    Gives .php s { s with mem := s.mem.write (slot s 0) (s.p.toByte ||| 0x30), sp := s.sp - 1 } ∧
    StoresOnly .php s (slot s 0) (s.p.toByte ||| 0x30) ∧
    Gives .pla s { s with a := s.mem.read (slotUp s 1), p := znOf s.p (s.mem.read (slotUp s 1)), sp := s.sp + 1 } ∧
    ∃ p, Gives .plp s { s with p := p, sp := s.sp + 1 } ∧ p.b = s.p.b ∧
      p.toByte = (s.mem.read (slotUp s 1) &&& 0xCF) ||| (s.p.toByte &&& 0x30)

/-- The seven flag instructions complete in every state, set or clear exactly one flag, and change nothing else (R224 to R230; which flag is the
spec's own, D34, log 14). -/
def Obligations.FlagInstructions : Prop :=
  ∀ s : State,
    SetsP .clc { s.p with c := false } s ∧ SetsP .sec { s.p with c := true } s ∧
    SetsP .cli { s.p with i := false } s ∧ SetsP .sei { s.p with i := true } s ∧
    SetsP .cld { s.p with d := false } s ∧ SetsP .sed { s.p with d := true } s ∧
    SetsP .clv { s.p with v := false } s

/-- BRK completes by halting: it pushes the post-fetch PC plus `BRK_PUSH_ADDEND` and P with Break set, sets I, and leaves PC; every byte but the
three pushed reads as before (R240; the PC, and the addend as a parameter, are the spec's own, D13, D14, logs 1, 14). -/
def Obligations.BrkPushesAndHalts : Prop :=
  ∀ s : State, s.MemoryReady →
    Gives .brk s { s with
      mem := pushedFrame s (s.pc + s.cfg.brkPushAddend) (s.p.toByte ||| 0x10)
      sp := s.sp - 3
      p := { s.p with i := true }
      run := .halted .brk } ∧
    (s.mem.wf = true → ∀ t, exec .brk s = .next t → ∀ b, b ≠ slot s 0 → b ≠ slot s 1 → b ≠ slot s 2 →
      t.mem.read b = s.mem.read b)

/-- RTI completes: P from the pulled byte but for Break and Unused, then PC, low byte first, with nothing added (R241; the byte order is the
spec's own, D19, log 14). -/
def Obligations.RtiRestoresPAndPc : Prop :=
  ∀ s : State, s.MemoryReady → ∃ p,
    Gives .rti s { s with p := p, pc := s.mem.read (slotUp s 3) ++ s.mem.read (slotUp s 2), sp := s.sp + 3 } ∧ p.b = s.p.b ∧
    p.toByte = (s.mem.read (slotUp s 1) &&& 0xCF) ||| (s.p.toByte &&& 0x30)

/-- NOP completes in every state and changes nothing (R242). -/
def Obligations.NopChangesNothing : Prop := ∀ s : State, Gives .nop s s

/-- The transfers complete under `HAS_TRANSFER_GROUP`: each copies one register, and all but TXS set Z and N (R243 to R248, the spec's own,
D2, log 14). -/
def Obligations.TransfersCopyRegisters : Prop :=
  ∀ s : State, s.cfg.hasTransferGroup = true →
    Gives .tax s { s with x := s.a, p := znOf s.p s.a } ∧ Gives .tay s { s with y := s.a, p := znOf s.p s.a } ∧
    Gives .txa s { s with a := s.x, p := znOf s.p s.x } ∧ Gives .tya s { s with a := s.y, p := znOf s.p s.y } ∧
    Gives .tsx s { s with x := s.sp, p := znOf s.p s.sp } ∧ Gives .txs s { s with sp := s.x }

/-! ### Rules over all instructions -/

/-- R28 as a whole: a flag changes only by an instruction its row lists (N has Z's row), and Break by none (the rows of the transfers and of PLA
are the spec's own, D2, D32, log 14). -/
def Obligations.FlagsChangeOnlyByTheirWriters : Prop :=
  ∀ (i : Instr) (s t : State), exec i s = .next t →
    (t.p.c ≠ s.p.c → i.mnemonic ∈ writesC) ∧ (t.p.z ≠ s.p.z → i.mnemonic ∈ writesZ) ∧
    (t.p.n ≠ s.p.n → i.mnemonic ∈ writesZ) ∧ (t.p.i ≠ s.p.i → i.mnemonic ∈ writesI) ∧
    (t.p.d ≠ s.p.d → i.mnemonic ∈ writesD) ∧ (t.p.v ≠ s.p.v → i.mnemonic ∈ writesV) ∧ t.p.b = s.p.b

/-- R20 to R24: a register changes only by an instruction listed for it (the transfers are the spec's own, D2, log 14). -/
def Obligations.RegistersChangeOnlyByTheirWriters : Prop :=
  ∀ (i : Instr) (s t : State), exec i s = .next t →
    (t.a ≠ s.a → i.mnemonic ∈ writesA) ∧ (t.x ≠ s.x → i.mnemonic ∈ writesX) ∧ (t.y ≠ s.y → i.mnemonic ∈ writesY) ∧
    (t.sp ≠ s.sp → i.mnemonic ∈ writesS) ∧ (t.pc ≠ s.pc → i.mnemonic ∈ writesPc)

/-- An instruction that stores nothing, and a shift in Accumulator mode, leaves every byte of memory as it reads; no instruction writes the
registry, the latches, the debug bit or the parameters; only BRK moves the run state (R30, R32, R260, R262). -/
def Obligations.OnlyStoringInstructionsChangeMemory : Prop :=
  ∀ (i : Instr) (s t : State), exec i s = .next t →
    (i.mnemonic ∉ writesMem ∨ i.operand = .accumulator → ∀ b, t.mem.read b = s.mem.read b) ∧
    t.registry = s.registry ∧ t.nmiPending = s.nmiPending ∧ t.irqPending = s.irqPending ∧
    t.debugEnabled = s.debugEnabled ∧ t.cfg = s.cfg ∧ (i ≠ .brk → t.run = s.run)

/-- JSR then RTS: whatever runs between, if memory and S are as JSR left them, RTS returns to the instruction after the JSR and restores S
(R210, R211). -/
def Obligations.RtsUndoesJsr : Prop :=
  ∀ (s t u : State) (w : Word), s.mem.wf = true → exec (.jsr w) s = .next t →
    u.MemoryReady → u.mem = t.mem → u.sp = t.sp →
    Gives .rts u { u with pc := s.pc, sp := s.sp }

/-- PHP then PLP leaves P as it was but for the live Break bit, and PHA then PLA leaves A as it was, with Z and N set from it; S
returns to its value (R127, R220 to R223; that PLA writes Z and N is the spec's own, G6, D32, log 14). -/
def Obligations.PullUndoesPush : Prop :=
  ∀ (s t u : State), s.mem.wf = true → u.MemoryReady → u.mem = t.mem → u.sp = t.sp →
    (exec .php s = .next t → Gives .plp u { u with p := { s.p with b := u.p.b }, sp := s.sp }) ∧
    (exec .pha s = .next t → Gives .pla u { u with a := s.a, p := znOf u.p s.a, sp := s.sp })

/-- The nibble procedures of R154 and R155 compute the decimal sum and difference on all valid BCD operands (the spec marks this as derived). -/
def Obligations.NibbleProceduresAreDecimal : Prop :=
  ∀ (a m : Byte) (c : Bool), IsBcd a → IsBcd m →
    addDecimalByNibbles a m c = ((addDecimal a m c).r, (addDecimal a m c).carry) ∧
    subDecimalByNibbles a m c = ((subDecimal a m c).r, (subDecimal a m c).carry)

/-! ### The step -/

/-- A step runs the decoded instruction (R110 to R113): when the bytes at PC decode to `i` and the core is not halted and takes no interrupt, the
step is `exec i` on the state with Running, PC past the instruction and nothing else changed, after which only the outputs are written: the
cycles of R132 and, if debugging is enabled, the event of R285 with the opcode's address (the spec's own, D26, log 14). -/
def Obligations.StepRunsTheDecodedInstruction : Prop :=
  ∀ (s : State) (i : Instr), s.MemoryReady → Executing s → At i s →
    ∃ f e, f.arch = ({ s with run := .running, pc := s.pc + BitVec.ofNat 16 (1 + i.operand.mode.operandBytes) } : State).arch ∧
      opcodeEntry s.cfg (s.mem.read s.pc) = some e ∧ e.mnemonic = i.mnemonic ∧ e.mode = i.operand.mode ∧
      step s = andThen (exec i f) (fun t => .next (retire s.pc (s.mem.read s.pc) e i t)) ∧
      ∀ t, (retire s.pc (s.mem.read s.pc) e i t).arch = t.arch ∧
        (retire s.pc (s.mem.read s.pc) e i t).obs.result = some (.executed (realizedCycles e t.obs.outcome)) ∧
        (retire s.pc (s.mem.read s.pc) e i t).obs.event =
          if t.debugEnabled then some ⟨s.pc, s.mem.read s.pc, realizedCycles e t.obs.outcome, i.operand⟩ else none

/-- R260: a halted core ignores the step: nothing changes, no interrupt is serviced, and the result is Ignored; any number of steps leaves it
halted as it was. -/
def Obligations.HaltedIgnoresSteps : Prop :=
  ∀ (n : Nat) (s : State), s.run.isHalted = true →
    CompletesAs (Sys2Proof.core.run n s) s ∧ ∃ t, step s = .next t ∧ t.arch = s.arch ∧ t.obs.result = some .ignored

/-- R271: an unpopulated opcode halts the core with IllegalOpcode and PC one past the byte; nothing else changes and no operand byte is read (the
PC and what is not done are the spec's own, D15, log 14). -/
def Obligations.IllegalOpcodeHaltsTheCore : Prop :=
  ∀ s : State, s.MemoryReady → Executing s → opcodeEntry s.cfg (s.mem.read s.pc) = none →
    CompletesAs (step s) { s with run := .halted .illegalOpcode, pc := s.pc + 1 } ∧
    ∀ t, step s = .next t → t.obs.result = some (.illegalOpcode (s.mem.read s.pc)) ∧ t.obs.event = none ∧
      (s.Scoped → t.obs.trace = [⟨s.pc, s.mem.read s.pc, .read⟩])

/-- R264: NMI first, then IRQ only if I is clear, then none. The one serviced loses its latch and no other; a masked IRQ neither is taken nor
stops the instruction nor is dropped (that the one serviced loses its latch is the spec's own, R265 point (c), D11, log 14). -/
def Obligations.InterruptPriority : Prop :=
  ∀ s : State, s.MemoryReady → s.run.isHalted = false → ∃ t, step s = .next t ∧
    (s.nmiPending = true → t.obs.result = some (.serviced .nmi) ∧ t.nmiPending = false ∧ t.irqPending = s.irqPending) ∧
    (s.nmiPending = false → s.irqPending = true → s.p.i = false →
      t.obs.result = some (.serviced .irq) ∧ t.nmiPending = false ∧ t.irqPending = false) ∧
    (s.nmiPending = false → (s.irqPending = false ∨ s.p.i = true) →
      (∃ n, t.obs.result = some (.executed n)) ∨ t.obs.result = some (.illegalOpcode (s.mem.read s.pc))) ∧
    (Executing s → t.nmiPending = s.nmiPending ∧ t.irqPending = s.irqPending)

/-- R265: an entry pushes PC, high byte first, then the live P, clears the latch of the kind, sets I if `INT_ENTRY_SETS_I`, and loads PC from the
vector; nothing else changes (the pushed byte, I and the latch are the spec's own, D9, D10, D11, logs 1, 14). -/
def Obligations.InterruptEntry : Prop :=
  ∀ s : State, s.MemoryReady →
    CompletesAs (serviceInterrupt .nmi s) { s with
      mem := pushedFrame s s.pc s.p.toByte
      sp := s.sp - 3
      p := { s.p with i := s.p.i || s.cfg.intEntrySetsI }
      nmiPending := false
      pc := wordAt (pushedFrame s s.pc s.p.toByte) 0xFFFA } ∧
    CompletesAs (serviceInterrupt .irq s) { s with
      mem := pushedFrame s s.pc s.p.toByte
      sp := s.sp - 3
      p := { s.p with i := s.p.i || s.cfg.intEntrySetsI }
      irqPending := false
      pc := wordAt (pushedFrame s s.pc s.p.toByte) 0xFFFE }

/-- R267: an RTI that finds memory and S as the entry left them resumes the interrupted program: PC and S are as they were, and P but for the
live Break bit. -/
def Obligations.RtiResumesInterruptedProgram : Prop :=
  ∀ (k : InterruptKind) (s t u : State), s.mem.wf = true → serviceInterrupt k s = .next t →
    u.MemoryReady → u.mem = t.mem → u.sp = t.sp →
    Gives .rti u { u with pc := s.pc, sp := s.sp, p := { s.p with b := u.p.b } }

/-- A branch reports 2 cycles, 3 if taken, 4 if taken to another page than the post-fetch PC's, and 0x0100 is the page size (R132, R200; the base
count 2 is the source's, the flags on the entries are the spec's own, D4, log 14). -/
def Obligations.BranchCycles : Prop :=
  ∀ (s : State) (off : Byte),
    let next := s.pc + 2
    let target := next + off.signExtend 16
    let cycles := fun taken : Bool =>
      if taken then (if target.toNat / 256 = next.toNat / 256 then 3 else 4) else 2
    Reports (.bcc off) s (cycles (!s.p.c)) ∧ Reports (.bcs off) s (cycles s.p.c) ∧
    Reports (.bne off) s (cycles (!s.p.z)) ∧ Reports (.beq off) s (cycles s.p.z) ∧
    Reports (.bpl off) s (cycles (!s.p.n)) ∧ Reports (.bmi off) s (cycles s.p.n) ∧
    Reports (.bvc off) s (cycles (!s.p.v)) ∧ Reports (.bvs off) s (cycles s.p.v)

/-- LDA reports 2, 3, 4, 4, 4+p, 4+p, 6 and 5+p cycles, where p is 1 if the index moves the address to another page (R132, R140; the counts
are the spec's own, D4, log 14). -/
def Obligations.LoadCycles : Prop :=
  ∀ s : State,
    (∀ v, Reports (.ldaImm v) s 2) ∧ (∀ z, Reports (.ldaZp z) s 3) ∧ (∀ z, Reports (.ldaZpx z) s 4) ∧
    (∀ w, Reports (.ldaAbs w) s 4) ∧
    (∀ w, Reports (.ldaAbx w) s (if (w + s.x.zeroExtend 16).toNat / 256 = w.toNat / 256 then 4 else 5)) ∧
    (∀ w, Reports (.ldaAby w) s (if (w + s.y.zeroExtend 16).toNat / 256 = w.toNat / 256 then 4 else 5)) ∧
    (∀ z, Reports (.ldaIzx z) s 6) ∧
    (∀ z, Reports (.ldaIzy z) s
      (let base := s.mem.read ((z + 1).zeroExtend 16) ++ s.mem.read (z.zeroExtend 16)
       if (base + s.y.zeroExtend 16).toNat / 256 = base.toNat / 256 then 5 else 6))

/-- R133 on the scoped platform, in the order the CPU observes: pointer low then high, then the operand's read, then the write; one read and one
write for a read-modify-write (INC and DEC by `adjustMemory`, the shifts and rotates of memory by `shiftMemory`; R73, R131), no read for a
store, stack writes in the order pushed (the order is the spec's own, D20; the trace is the model's output, logs 9, 14). -/
def Obligations.BusAccessesComeInOrder : Prop :=
  ∀ s : State, s.Scoped → ∀ m : MemOperand,
    (∀ r, Traces (load r (.mem m) s) s (resolveReads m s ++ [⟨m.address s, s.mem.read (m.address s), .read⟩])) ∧
    (∀ r, Traces (store r m s) s (resolveReads m s ++ [⟨m.address s, s.reg r, .write⟩])) ∧
    (∀ d, Traces (adjustMemory d m s) s (resolveReads m s ++
      [⟨m.address s, s.mem.read (m.address s), .read⟩, ⟨m.address s, s.mem.read (m.address s) + d, .write⟩])) ∧
    (∀ f, Traces (shiftMemory f m s) s (resolveReads m s ++
      [⟨m.address s, s.mem.read (m.address s), .read⟩, ⟨m.address s, (f (s.mem.read (m.address s)) s.p.c).1, .write⟩])) ∧
    (∀ ret status, Traces (pushFrame ret status s) s
      [⟨slot s 0, ret.extractLsb' 8 8, .write⟩, ⟨slot s 1, ret.extractLsb' 0 8, .write⟩, ⟨slot s 2, status, .write⟩])

/-! ### Reset, the host, and the whole machine -/

/-- R300: reset completes in every run state with the power-on values, PC from the vector at 0xFFFC, Ready, and memory and everything else
unchanged (that it clears the latches is the spec's own, D21, log 14). -/
def Obligations.ResetRestoresPowerOnValues : Prop :=
  ∀ s : State, s.MemoryReady →
    CompletesAs (hostReset s) { s with
      a := 0x00, x := 0x00, y := 0x00, sp := 0xFD
      p := { c := false, z := false, i := false, d := false, b := false, v := false, n := false }
      pc := wordAt s.mem 0xFFFC
      run := .ready
      nmiPending := false, irqPending := false }

/-- R262: a request sets the latch of its kind, in any run state, and nothing else; a second request is absorbed. One latch for each kind is the
spec's own (D11, log 14). -/
def Obligations.RequestSetsOneLatch : Prop :=
  ∀ s : State, requestInterrupt .nmi s = { s with nmiPending := true } ∧ requestInterrupt .irq s = { s with irqPending := true } ∧
    ∀ k, requestInterrupt k (requestInterrupt k s) = requestInterrupt k s

/-- No step writes Break, the registry, the debug bit or the parameters: the core never sets P.B (R27, R32, the parameters of R6). -/
def Obligations.StepKeepsBreakAndPlatform : Prop :=
  ∀ s t : State, step s = .next t →
    t.p.b = s.p.b ∧ t.registry = s.registry ∧ t.debugEnabled = s.debugEnabled ∧ t.cfg = s.cfg

/-- R260: from a state that is not halted, a step ends Running, or Halted(BRK) by executing opcode 0x00, or Halted(IllegalOpcode) by an unpopulated
opcode; so the halt reasons Reset, IRQ and NMI are never produced (C6; the opcode byte is the spec's own, G1, log 14). -/
def Obligations.OnlyBrkAndIllegalOpcodesHalt : Prop :=
  ∀ s t : State, s.run.isHalted = false → step s = .next t →
    t.run = .running ∨
    (t.run = .halted .brk ∧ Executing s ∧ s.mem.read s.pc = 0x00) ∨
    (t.run = .halted .illegalOpcode ∧ Executing s ∧ opcodeEntry s.cfg (s.mem.read s.pc) = none)

/-- R286, R287: `run`, when it returns from a state of the invariant, returns a core that is Halted(BRK) or Halted(IllegalOpcode) (the bound on the
number of steps is the model's device, `run`). -/
def Obligations.RunReturnsHalted : Prop :=
  ∀ (fuel : Nat) (s : State) (r : Host.Outcome State Fault Refusal), s.Inv → run fuel s = some r →
    ∃ t, r = .next t ∧ t.Inv ∧ (t.NormalEnd ∨ t.IllegalEnd)

/-- The invariant holds right after reset (the run state and P are R300's, the registry R36's; the empty canonical memory is the model's choice,
log 2, and so is the guard's reset value, on which Memory on the bus rests, log 7). -/
def Obligations.InvariantAtReset : Prop := State.reset.Inv

/-- Every step keeps the invariant: canonical memory, Memory on the bus, a run state the core produces, P.B = 0 (R27, R32, R260; the canonical
form is the model's, log 2). -/
def Obligations.StepKeepsInvariant : Prop := ∀ s t : State, s.Inv → step s = .next t → t.Inv

/-- The step is total wherever Memory is on the bus: no fault and no refusal, for any number of steps (R68: no bus error can occur in the scoped
platform; the spec marks that as derived). -/
def Obligations.RunsNeverStop : Prop :=
  ∀ (n : Nat) (s : State), s.MemoryReady → SafeFor n s
end

