-- ==== Sys2Proof/Laws/Memory.lean ====
section
/-! SUPPORT. The laws of memory: a write is read back, leaves every other cell alone and keeps the canonical form, and equal contents are
equal lists. -/

namespace Sys2Proof.Machine

theorem Memory.wfFrom_nil (lo : Nat) : Memory.wfFrom lo [] = true := rfl

theorem Memory.wfFrom_cons (lo k : Nat) (v : Byte) (rest : Memory) :
    Memory.wfFrom lo ((k, v) :: rest) = true ↔
      lo ≤ k ∧ k < 65536 ∧ v ≠ Memory.unlisted ∧ Memory.wfFrom (k + 1) rest = true := by
  simp [Memory.wfFrom, and_assoc]

theorem Memory.wfFrom_mono {lo lo' : Nat} {m : Memory} (h : Memory.wfFrom lo m = true) (hl : lo' ≤ lo) :
    Memory.wfFrom lo' m = true := by
  cases m with
  | nil => rfl
  | cons c rest =>
    obtain ⟨k, v⟩ := c
    rw [Memory.wfFrom_cons] at h ⊢
    exact ⟨hl.trans h.1, h.2⟩

/-- Below the first key nothing is listed. -/
theorem Memory.cell_below {lo : Nat} {m : Memory} (h : Memory.wfFrom lo m = true) {k : Nat} (hk : k < lo) :
    m.cell k = Memory.unlisted := by
  induction m generalizing lo with
  | nil => rfl
  | cons c rest ih =>
    obtain ⟨k', v⟩ := c
    rw [Memory.wfFrom_cons] at h
    have hne : k' ≠ k := by omega
    simp only [Memory.cell, hne, if_false]
    exact ih h.2.2.2 (by omega)

theorem Memory.cell_consCell_self (k : Nat) (v : Byte) (rest : Memory) (h : Memory.wfFrom (k + 1) rest = true) :
    (Memory.consCell k v rest).cell k = v := by
  unfold Memory.consCell
  split
  · next hv => rw [Memory.cell_below h (by omega), hv]
  · simp [Memory.cell]

theorem Memory.cell_consCell_ne {k j : Nat} (v : Byte) (rest : Memory) (hne : k ≠ j) :
    (Memory.consCell k v rest).cell j = rest.cell j := by
  unfold Memory.consCell
  split
  · rfl
  · simp [Memory.cell, hne]

theorem Memory.wfFrom_consCell {lo k : Nat} {v : Byte} {rest : Memory} (hlo : lo ≤ k) (hk : k < 65536)
    (h : Memory.wfFrom (k + 1) rest = true) : Memory.wfFrom lo (Memory.consCell k v rest) = true := by
  unfold Memory.consCell
  split
  · exact Memory.wfFrom_mono h (by omega)
  · next hv => exact (Memory.wfFrom_cons ..).2 ⟨hlo, hk, hv, h⟩

theorem Memory.wfFrom_setCell {lo k : Nat} {v : Byte} {m : Memory} (h : Memory.wfFrom lo m = true) (hlo : lo ≤ k)
    (hk : k < 65536) : Memory.wfFrom lo (m.setCell k v) = true := by
  induction m generalizing lo with
  | nil => exact Memory.wfFrom_consCell hlo hk rfl
  | cons c rest ih =>
    obtain ⟨k', v'⟩ := c
    have h' := (Memory.wfFrom_cons ..).1 h
    unfold Memory.setCell
    split
    · next hlt => exact Memory.wfFrom_consCell hlo hk ((Memory.wfFrom_cons ..).2 ⟨hlt, h'.2⟩)
    · split
      · next heq => exact Memory.wfFrom_consCell hlo hk (heq ▸ h'.2.2.2)
      · exact (Memory.wfFrom_cons ..).2 ⟨h'.1, h'.2.1, h'.2.2.1, ih h'.2.2.2 (by omega)⟩

theorem Memory.cell_setCell {lo k : Nat} {v : Byte} {m : Memory} (h : Memory.wfFrom lo m = true) (j : Nat) :
    (m.setCell k v).cell j = if j = k then v else m.cell j := by
  induction m generalizing lo with
  | nil =>
    by_cases hj : j = k
    · subst hj
      simpa [Memory.setCell] using Memory.cell_consCell_self j v [] rfl
    · simpa [Memory.setCell, hj] using Memory.cell_consCell_ne v [] (Ne.symm hj)
  | cons c rest ih =>
    obtain ⟨k', v'⟩ := c
    have h' := (Memory.wfFrom_cons ..).1 h
    unfold Memory.setCell
    split
    · next hlt =>
      by_cases hj : j = k
      · subst hj
        simpa using Memory.cell_consCell_self j v _ ((Memory.wfFrom_cons ..).2 ⟨hlt, h'.2⟩)
      · simpa [hj] using Memory.cell_consCell_ne v ((k', v') :: rest) (Ne.symm hj)
    · split
      · next heq =>
        subst heq
        by_cases hj : j = k'
        · subst hj
          simpa using Memory.cell_consCell_self j v rest h'.2.2.2
        · simpa [Memory.cell, hj, Ne.symm hj] using Memory.cell_consCell_ne v rest (Ne.symm hj)
      · next hne =>
        by_cases hj : j = k'
        · subst hj
          simp [Memory.cell, hne]
        · simp [Memory.cell, Ne.symm hj, ih h'.2.2.2]

/-- A write keeps the canonical form. -/
theorem Memory.wf_write {m : Memory} (h : m.wf = true) (addr : Word) (v : Byte) : (m.write addr v).wf = true :=
  Memory.wfFrom_setCell h (Nat.zero_le _) (by have := addr.isLt; omega)

/-- What every cell holds after a write. -/
theorem Memory.read_write {m : Memory} (h : m.wf = true) (addr addr' : Word) (v : Byte) :
    (m.write addr v).read addr' = if addr' = addr then v else m.read addr' := by
  have := Memory.cell_setCell (k := addr.toNat) (v := v) h addr'.toNat
  simpa [Memory.write, Memory.read, BitVec.toNat_inj] using this

theorem Memory.read_write_same {m : Memory} (h : m.wf = true) (addr : Word) (v : Byte) :
    (m.write addr v).read addr = v := by
  simp [Memory.read_write h]

theorem Memory.read_write_ne {m : Memory} (h : m.wf = true) {addr addr' : Word} (v : Byte) (hne : addr' ≠ addr) :
    (m.write addr v).read addr' = m.read addr' := by
  simp [Memory.read_write h, hne]

/-- Empty memory has the canonical form. -/
theorem Memory.wf_nil : Memory.wf [] = true := rfl

theorem Memory.cell_above {lo : Nat} {m : Memory} (h : Memory.wfFrom lo m = true) {k : Nat} (hk : 65536 ≤ k) :
    m.cell k = Memory.unlisted := by
  induction m generalizing lo with
  | nil => rfl
  | cons c rest ih =>
    obtain ⟨k', v⟩ := c
    have h' := (Memory.wfFrom_cons ..).1 h
    have hne : k' ≠ k := by omega
    simp only [Memory.cell, hne, if_false]
    exact ih h'.2.2.2

theorem Memory.ext_cell {lo : Nat} {m m' : Memory} (h : Memory.wfFrom lo m = true) (h' : Memory.wfFrom lo m' = true)
    (hc : ∀ k, m.cell k = m'.cell k) : m = m' := by
  induction m generalizing lo m' with
  | nil =>
    cases m' with
    | nil => rfl
    | cons c rest =>
      obtain ⟨k, v⟩ := c
      have hv := ((Memory.wfFrom_cons ..).1 h').2.2.1
      exact absurd (by simpa [Memory.cell] using (hc k).symm) hv
  | cons c rest ih =>
    obtain ⟨k, v⟩ := c
    have w := (Memory.wfFrom_cons ..).1 h
    cases m' with
    | nil => exact absurd (by simpa [Memory.cell] using hc k) w.2.2.1
    | cons c' rest' =>
      obtain ⟨k', v'⟩ := c'
      have w' := (Memory.wfFrom_cons ..).1 h'
      have hk : k = k' := by
        rcases Nat.lt_trichotomy k k' with hlt | heq | hgt
        · have e := hc k
          rw [Memory.cell_below (lo := k') ((Memory.wfFrom_cons ..).2 ⟨le_refl _, w'.2⟩) hlt] at e
          exact absurd (by simpa [Memory.cell] using e) w.2.2.1
        · exact heq
        · have e := hc k'
          rw [Memory.cell_below (lo := k) ((Memory.wfFrom_cons ..).2 ⟨le_refl _, w.2⟩) hgt] at e
          exact absurd (by simpa [Memory.cell] using e.symm) w'.2.2.1
      subst hk
      have hv : v = v' := by simpa [Memory.cell] using hc k
      subst hv
      refine congrArg _ (ih w.2.2.2 w'.2.2.2 fun j => ?_)
      by_cases hj : k = j
      · subst hj
        rw [Memory.cell_below w.2.2.2 (by omega), Memory.cell_below w'.2.2.2 (by omega)]
      · simpa [Memory.cell, hj] using hc j

/-- Equal contents are equal memories. -/
theorem Memory.ext_read {m m' : Memory} (h : m.wf = true) (h' : m'.wf = true) (hr : ∀ addr, m.read addr = m'.read addr) :
    m = m' := by
  refine Memory.ext_cell h h' fun k => ?_
  by_cases hk : k < 65536
  · have := hr (BitVec.ofNat 16 k)
    simpa [Memory.read, Nat.mod_eq_of_lt hk] using this
  · rw [Memory.cell_above h (by omega), Memory.cell_above h' (by omega)]

end Sys2Proof.Machine
end

