-- ==== Sys2Proof/Laws/State.lean ====
section
/-! SUPPORT. One lemma for each field of `State` under each update, so that no proof unfolds a record update; and how the updates
lie under `State.arch`. -/

namespace Sys2Proof.Machine

@[simp] theorem State.setA_a (s : State) (v : Byte) : (s.setA v).a = v := rfl
@[simp] theorem State.setA_x (s : State) (v : Byte) : (s.setA v).x = s.x := rfl
@[simp] theorem State.setA_y (s : State) (v : Byte) : (s.setA v).y = s.y := rfl
@[simp] theorem State.setA_sp (s : State) (v : Byte) : (s.setA v).sp = s.sp := rfl
@[simp] theorem State.setA_p (s : State) (v : Byte) : (s.setA v).p = s.p := rfl
@[simp] theorem State.setA_pc (s : State) (v : Byte) : (s.setA v).pc = s.pc := rfl
@[simp] theorem State.setA_run (s : State) (v : Byte) : (s.setA v).run = s.run := rfl
@[simp] theorem State.setA_nmiPending (s : State) (v : Byte) : (s.setA v).nmiPending = s.nmiPending := rfl
@[simp] theorem State.setA_irqPending (s : State) (v : Byte) : (s.setA v).irqPending = s.irqPending := rfl
@[simp] theorem State.setA_mem (s : State) (v : Byte) : (s.setA v).mem = s.mem := rfl
@[simp] theorem State.setA_registry (s : State) (v : Byte) : (s.setA v).registry = s.registry := rfl
@[simp] theorem State.setA_debugEnabled (s : State) (v : Byte) : (s.setA v).debugEnabled = s.debugEnabled := rfl
@[simp] theorem State.setA_cfg (s : State) (v : Byte) : (s.setA v).cfg = s.cfg := rfl
@[simp] theorem State.setA_obs (s : State) (v : Byte) : (s.setA v).obs = s.obs := rfl

@[simp] theorem State.setX_a (s : State) (v : Byte) : (s.setX v).a = s.a := rfl
@[simp] theorem State.setX_x (s : State) (v : Byte) : (s.setX v).x = v := rfl
@[simp] theorem State.setX_y (s : State) (v : Byte) : (s.setX v).y = s.y := rfl
@[simp] theorem State.setX_sp (s : State) (v : Byte) : (s.setX v).sp = s.sp := rfl
@[simp] theorem State.setX_p (s : State) (v : Byte) : (s.setX v).p = s.p := rfl
@[simp] theorem State.setX_pc (s : State) (v : Byte) : (s.setX v).pc = s.pc := rfl
@[simp] theorem State.setX_run (s : State) (v : Byte) : (s.setX v).run = s.run := rfl
@[simp] theorem State.setX_nmiPending (s : State) (v : Byte) : (s.setX v).nmiPending = s.nmiPending := rfl
@[simp] theorem State.setX_irqPending (s : State) (v : Byte) : (s.setX v).irqPending = s.irqPending := rfl
@[simp] theorem State.setX_mem (s : State) (v : Byte) : (s.setX v).mem = s.mem := rfl
@[simp] theorem State.setX_registry (s : State) (v : Byte) : (s.setX v).registry = s.registry := rfl
@[simp] theorem State.setX_debugEnabled (s : State) (v : Byte) : (s.setX v).debugEnabled = s.debugEnabled := rfl
@[simp] theorem State.setX_cfg (s : State) (v : Byte) : (s.setX v).cfg = s.cfg := rfl
@[simp] theorem State.setX_obs (s : State) (v : Byte) : (s.setX v).obs = s.obs := rfl

@[simp] theorem State.setY_a (s : State) (v : Byte) : (s.setY v).a = s.a := rfl
@[simp] theorem State.setY_x (s : State) (v : Byte) : (s.setY v).x = s.x := rfl
@[simp] theorem State.setY_y (s : State) (v : Byte) : (s.setY v).y = v := rfl
@[simp] theorem State.setY_sp (s : State) (v : Byte) : (s.setY v).sp = s.sp := rfl
@[simp] theorem State.setY_p (s : State) (v : Byte) : (s.setY v).p = s.p := rfl
@[simp] theorem State.setY_pc (s : State) (v : Byte) : (s.setY v).pc = s.pc := rfl
@[simp] theorem State.setY_run (s : State) (v : Byte) : (s.setY v).run = s.run := rfl
@[simp] theorem State.setY_nmiPending (s : State) (v : Byte) : (s.setY v).nmiPending = s.nmiPending := rfl
@[simp] theorem State.setY_irqPending (s : State) (v : Byte) : (s.setY v).irqPending = s.irqPending := rfl
@[simp] theorem State.setY_mem (s : State) (v : Byte) : (s.setY v).mem = s.mem := rfl
@[simp] theorem State.setY_registry (s : State) (v : Byte) : (s.setY v).registry = s.registry := rfl
@[simp] theorem State.setY_debugEnabled (s : State) (v : Byte) : (s.setY v).debugEnabled = s.debugEnabled := rfl
@[simp] theorem State.setY_cfg (s : State) (v : Byte) : (s.setY v).cfg = s.cfg := rfl
@[simp] theorem State.setY_obs (s : State) (v : Byte) : (s.setY v).obs = s.obs := rfl

@[simp] theorem State.setSp_a (s : State) (v : Byte) : (s.setSp v).a = s.a := rfl
@[simp] theorem State.setSp_x (s : State) (v : Byte) : (s.setSp v).x = s.x := rfl
@[simp] theorem State.setSp_y (s : State) (v : Byte) : (s.setSp v).y = s.y := rfl
@[simp] theorem State.setSp_sp (s : State) (v : Byte) : (s.setSp v).sp = v := rfl
@[simp] theorem State.setSp_p (s : State) (v : Byte) : (s.setSp v).p = s.p := rfl
@[simp] theorem State.setSp_pc (s : State) (v : Byte) : (s.setSp v).pc = s.pc := rfl
@[simp] theorem State.setSp_run (s : State) (v : Byte) : (s.setSp v).run = s.run := rfl
@[simp] theorem State.setSp_nmiPending (s : State) (v : Byte) : (s.setSp v).nmiPending = s.nmiPending := rfl
@[simp] theorem State.setSp_irqPending (s : State) (v : Byte) : (s.setSp v).irqPending = s.irqPending := rfl
@[simp] theorem State.setSp_mem (s : State) (v : Byte) : (s.setSp v).mem = s.mem := rfl
@[simp] theorem State.setSp_registry (s : State) (v : Byte) : (s.setSp v).registry = s.registry := rfl
@[simp] theorem State.setSp_debugEnabled (s : State) (v : Byte) : (s.setSp v).debugEnabled = s.debugEnabled := rfl
@[simp] theorem State.setSp_cfg (s : State) (v : Byte) : (s.setSp v).cfg = s.cfg := rfl
@[simp] theorem State.setSp_obs (s : State) (v : Byte) : (s.setSp v).obs = s.obs := rfl

@[simp] theorem State.setP_a (s : State) (v : Status) : (s.setP v).a = s.a := rfl
@[simp] theorem State.setP_x (s : State) (v : Status) : (s.setP v).x = s.x := rfl
@[simp] theorem State.setP_y (s : State) (v : Status) : (s.setP v).y = s.y := rfl
@[simp] theorem State.setP_sp (s : State) (v : Status) : (s.setP v).sp = s.sp := rfl
@[simp] theorem State.setP_p (s : State) (v : Status) : (s.setP v).p = v := rfl
@[simp] theorem State.setP_pc (s : State) (v : Status) : (s.setP v).pc = s.pc := rfl
@[simp] theorem State.setP_run (s : State) (v : Status) : (s.setP v).run = s.run := rfl
@[simp] theorem State.setP_nmiPending (s : State) (v : Status) : (s.setP v).nmiPending = s.nmiPending := rfl
@[simp] theorem State.setP_irqPending (s : State) (v : Status) : (s.setP v).irqPending = s.irqPending := rfl
@[simp] theorem State.setP_mem (s : State) (v : Status) : (s.setP v).mem = s.mem := rfl
@[simp] theorem State.setP_registry (s : State) (v : Status) : (s.setP v).registry = s.registry := rfl
@[simp] theorem State.setP_debugEnabled (s : State) (v : Status) : (s.setP v).debugEnabled = s.debugEnabled := rfl
@[simp] theorem State.setP_cfg (s : State) (v : Status) : (s.setP v).cfg = s.cfg := rfl
@[simp] theorem State.setP_obs (s : State) (v : Status) : (s.setP v).obs = s.obs := rfl

@[simp] theorem State.setPc_a (s : State) (v : Word) : (s.setPc v).a = s.a := rfl
@[simp] theorem State.setPc_x (s : State) (v : Word) : (s.setPc v).x = s.x := rfl
@[simp] theorem State.setPc_y (s : State) (v : Word) : (s.setPc v).y = s.y := rfl
@[simp] theorem State.setPc_sp (s : State) (v : Word) : (s.setPc v).sp = s.sp := rfl
@[simp] theorem State.setPc_p (s : State) (v : Word) : (s.setPc v).p = s.p := rfl
@[simp] theorem State.setPc_pc (s : State) (v : Word) : (s.setPc v).pc = v := rfl
@[simp] theorem State.setPc_run (s : State) (v : Word) : (s.setPc v).run = s.run := rfl
@[simp] theorem State.setPc_nmiPending (s : State) (v : Word) : (s.setPc v).nmiPending = s.nmiPending := rfl
@[simp] theorem State.setPc_irqPending (s : State) (v : Word) : (s.setPc v).irqPending = s.irqPending := rfl
@[simp] theorem State.setPc_mem (s : State) (v : Word) : (s.setPc v).mem = s.mem := rfl
@[simp] theorem State.setPc_registry (s : State) (v : Word) : (s.setPc v).registry = s.registry := rfl
@[simp] theorem State.setPc_debugEnabled (s : State) (v : Word) : (s.setPc v).debugEnabled = s.debugEnabled := rfl
@[simp] theorem State.setPc_cfg (s : State) (v : Word) : (s.setPc v).cfg = s.cfg := rfl
@[simp] theorem State.setPc_obs (s : State) (v : Word) : (s.setPc v).obs = s.obs := rfl

@[simp] theorem State.setRun_a (s : State) (v : RunState) : (s.setRun v).a = s.a := rfl
@[simp] theorem State.setRun_x (s : State) (v : RunState) : (s.setRun v).x = s.x := rfl
@[simp] theorem State.setRun_y (s : State) (v : RunState) : (s.setRun v).y = s.y := rfl
@[simp] theorem State.setRun_sp (s : State) (v : RunState) : (s.setRun v).sp = s.sp := rfl
@[simp] theorem State.setRun_p (s : State) (v : RunState) : (s.setRun v).p = s.p := rfl
@[simp] theorem State.setRun_pc (s : State) (v : RunState) : (s.setRun v).pc = s.pc := rfl
@[simp] theorem State.setRun_run (s : State) (v : RunState) : (s.setRun v).run = v := rfl
@[simp] theorem State.setRun_nmiPending (s : State) (v : RunState) : (s.setRun v).nmiPending = s.nmiPending := rfl
@[simp] theorem State.setRun_irqPending (s : State) (v : RunState) : (s.setRun v).irqPending = s.irqPending := rfl
@[simp] theorem State.setRun_mem (s : State) (v : RunState) : (s.setRun v).mem = s.mem := rfl
@[simp] theorem State.setRun_registry (s : State) (v : RunState) : (s.setRun v).registry = s.registry := rfl
@[simp] theorem State.setRun_debugEnabled (s : State) (v : RunState) : (s.setRun v).debugEnabled = s.debugEnabled := rfl
@[simp] theorem State.setRun_cfg (s : State) (v : RunState) : (s.setRun v).cfg = s.cfg := rfl
@[simp] theorem State.setRun_obs (s : State) (v : RunState) : (s.setRun v).obs = s.obs := rfl

@[simp] theorem State.setNmiPending_a (s : State) (v : Bool) : (s.setNmiPending v).a = s.a := rfl
@[simp] theorem State.setNmiPending_x (s : State) (v : Bool) : (s.setNmiPending v).x = s.x := rfl
@[simp] theorem State.setNmiPending_y (s : State) (v : Bool) : (s.setNmiPending v).y = s.y := rfl
@[simp] theorem State.setNmiPending_sp (s : State) (v : Bool) : (s.setNmiPending v).sp = s.sp := rfl
@[simp] theorem State.setNmiPending_p (s : State) (v : Bool) : (s.setNmiPending v).p = s.p := rfl
@[simp] theorem State.setNmiPending_pc (s : State) (v : Bool) : (s.setNmiPending v).pc = s.pc := rfl
@[simp] theorem State.setNmiPending_run (s : State) (v : Bool) : (s.setNmiPending v).run = s.run := rfl
@[simp] theorem State.setNmiPending_nmiPending (s : State) (v : Bool) : (s.setNmiPending v).nmiPending = v := rfl
@[simp] theorem State.setNmiPending_irqPending (s : State) (v : Bool) : (s.setNmiPending v).irqPending = s.irqPending := rfl
@[simp] theorem State.setNmiPending_mem (s : State) (v : Bool) : (s.setNmiPending v).mem = s.mem := rfl
@[simp] theorem State.setNmiPending_registry (s : State) (v : Bool) : (s.setNmiPending v).registry = s.registry := rfl
@[simp] theorem State.setNmiPending_debugEnabled (s : State) (v : Bool) : (s.setNmiPending v).debugEnabled = s.debugEnabled := rfl
@[simp] theorem State.setNmiPending_cfg (s : State) (v : Bool) : (s.setNmiPending v).cfg = s.cfg := rfl
@[simp] theorem State.setNmiPending_obs (s : State) (v : Bool) : (s.setNmiPending v).obs = s.obs := rfl

@[simp] theorem State.setIrqPending_a (s : State) (v : Bool) : (s.setIrqPending v).a = s.a := rfl
@[simp] theorem State.setIrqPending_x (s : State) (v : Bool) : (s.setIrqPending v).x = s.x := rfl
@[simp] theorem State.setIrqPending_y (s : State) (v : Bool) : (s.setIrqPending v).y = s.y := rfl
@[simp] theorem State.setIrqPending_sp (s : State) (v : Bool) : (s.setIrqPending v).sp = s.sp := rfl
@[simp] theorem State.setIrqPending_p (s : State) (v : Bool) : (s.setIrqPending v).p = s.p := rfl
@[simp] theorem State.setIrqPending_pc (s : State) (v : Bool) : (s.setIrqPending v).pc = s.pc := rfl
@[simp] theorem State.setIrqPending_run (s : State) (v : Bool) : (s.setIrqPending v).run = s.run := rfl
@[simp] theorem State.setIrqPending_nmiPending (s : State) (v : Bool) : (s.setIrqPending v).nmiPending = s.nmiPending := rfl
@[simp] theorem State.setIrqPending_irqPending (s : State) (v : Bool) : (s.setIrqPending v).irqPending = v := rfl
@[simp] theorem State.setIrqPending_mem (s : State) (v : Bool) : (s.setIrqPending v).mem = s.mem := rfl
@[simp] theorem State.setIrqPending_registry (s : State) (v : Bool) : (s.setIrqPending v).registry = s.registry := rfl
@[simp] theorem State.setIrqPending_debugEnabled (s : State) (v : Bool) : (s.setIrqPending v).debugEnabled = s.debugEnabled := rfl
@[simp] theorem State.setIrqPending_cfg (s : State) (v : Bool) : (s.setIrqPending v).cfg = s.cfg := rfl
@[simp] theorem State.setIrqPending_obs (s : State) (v : Bool) : (s.setIrqPending v).obs = s.obs := rfl

@[simp] theorem State.setMem_a (s : State) (v : Memory) : (s.setMem v).a = s.a := rfl
@[simp] theorem State.setMem_x (s : State) (v : Memory) : (s.setMem v).x = s.x := rfl
@[simp] theorem State.setMem_y (s : State) (v : Memory) : (s.setMem v).y = s.y := rfl
@[simp] theorem State.setMem_sp (s : State) (v : Memory) : (s.setMem v).sp = s.sp := rfl
@[simp] theorem State.setMem_p (s : State) (v : Memory) : (s.setMem v).p = s.p := rfl
@[simp] theorem State.setMem_pc (s : State) (v : Memory) : (s.setMem v).pc = s.pc := rfl
@[simp] theorem State.setMem_run (s : State) (v : Memory) : (s.setMem v).run = s.run := rfl
@[simp] theorem State.setMem_nmiPending (s : State) (v : Memory) : (s.setMem v).nmiPending = s.nmiPending := rfl
@[simp] theorem State.setMem_irqPending (s : State) (v : Memory) : (s.setMem v).irqPending = s.irqPending := rfl
@[simp] theorem State.setMem_mem (s : State) (v : Memory) : (s.setMem v).mem = v := rfl
@[simp] theorem State.setMem_registry (s : State) (v : Memory) : (s.setMem v).registry = s.registry := rfl
@[simp] theorem State.setMem_debugEnabled (s : State) (v : Memory) : (s.setMem v).debugEnabled = s.debugEnabled := rfl
@[simp] theorem State.setMem_cfg (s : State) (v : Memory) : (s.setMem v).cfg = s.cfg := rfl
@[simp] theorem State.setMem_obs (s : State) (v : Memory) : (s.setMem v).obs = s.obs := rfl

@[simp] theorem State.setRegistry_a (s : State) (v : List Registration) : (s.setRegistry v).a = s.a := rfl
@[simp] theorem State.setRegistry_x (s : State) (v : List Registration) : (s.setRegistry v).x = s.x := rfl
@[simp] theorem State.setRegistry_y (s : State) (v : List Registration) : (s.setRegistry v).y = s.y := rfl
@[simp] theorem State.setRegistry_sp (s : State) (v : List Registration) : (s.setRegistry v).sp = s.sp := rfl
@[simp] theorem State.setRegistry_p (s : State) (v : List Registration) : (s.setRegistry v).p = s.p := rfl
@[simp] theorem State.setRegistry_pc (s : State) (v : List Registration) : (s.setRegistry v).pc = s.pc := rfl
@[simp] theorem State.setRegistry_run (s : State) (v : List Registration) : (s.setRegistry v).run = s.run := rfl
@[simp] theorem State.setRegistry_nmiPending (s : State) (v : List Registration) : (s.setRegistry v).nmiPending = s.nmiPending := rfl
@[simp] theorem State.setRegistry_irqPending (s : State) (v : List Registration) : (s.setRegistry v).irqPending = s.irqPending := rfl
@[simp] theorem State.setRegistry_mem (s : State) (v : List Registration) : (s.setRegistry v).mem = s.mem := rfl
@[simp] theorem State.setRegistry_registry (s : State) (v : List Registration) : (s.setRegistry v).registry = v := rfl
@[simp] theorem State.setRegistry_debugEnabled (s : State) (v : List Registration) : (s.setRegistry v).debugEnabled = s.debugEnabled := rfl
@[simp] theorem State.setRegistry_cfg (s : State) (v : List Registration) : (s.setRegistry v).cfg = s.cfg := rfl
@[simp] theorem State.setRegistry_obs (s : State) (v : List Registration) : (s.setRegistry v).obs = s.obs := rfl

@[simp] theorem State.setDebugEnabled_a (s : State) (v : Bool) : (s.setDebugEnabled v).a = s.a := rfl
@[simp] theorem State.setDebugEnabled_x (s : State) (v : Bool) : (s.setDebugEnabled v).x = s.x := rfl
@[simp] theorem State.setDebugEnabled_y (s : State) (v : Bool) : (s.setDebugEnabled v).y = s.y := rfl
@[simp] theorem State.setDebugEnabled_sp (s : State) (v : Bool) : (s.setDebugEnabled v).sp = s.sp := rfl
@[simp] theorem State.setDebugEnabled_p (s : State) (v : Bool) : (s.setDebugEnabled v).p = s.p := rfl
@[simp] theorem State.setDebugEnabled_pc (s : State) (v : Bool) : (s.setDebugEnabled v).pc = s.pc := rfl
@[simp] theorem State.setDebugEnabled_run (s : State) (v : Bool) : (s.setDebugEnabled v).run = s.run := rfl
@[simp] theorem State.setDebugEnabled_nmiPending (s : State) (v : Bool) : (s.setDebugEnabled v).nmiPending = s.nmiPending := rfl
@[simp] theorem State.setDebugEnabled_irqPending (s : State) (v : Bool) : (s.setDebugEnabled v).irqPending = s.irqPending := rfl
@[simp] theorem State.setDebugEnabled_mem (s : State) (v : Bool) : (s.setDebugEnabled v).mem = s.mem := rfl
@[simp] theorem State.setDebugEnabled_registry (s : State) (v : Bool) : (s.setDebugEnabled v).registry = s.registry := rfl
@[simp] theorem State.setDebugEnabled_debugEnabled (s : State) (v : Bool) : (s.setDebugEnabled v).debugEnabled = v := rfl
@[simp] theorem State.setDebugEnabled_cfg (s : State) (v : Bool) : (s.setDebugEnabled v).cfg = s.cfg := rfl
@[simp] theorem State.setDebugEnabled_obs (s : State) (v : Bool) : (s.setDebugEnabled v).obs = s.obs := rfl

@[simp] theorem State.setCfg_a (s : State) (v : Config) : (s.setCfg v).a = s.a := rfl
@[simp] theorem State.setCfg_x (s : State) (v : Config) : (s.setCfg v).x = s.x := rfl
@[simp] theorem State.setCfg_y (s : State) (v : Config) : (s.setCfg v).y = s.y := rfl
@[simp] theorem State.setCfg_sp (s : State) (v : Config) : (s.setCfg v).sp = s.sp := rfl
@[simp] theorem State.setCfg_p (s : State) (v : Config) : (s.setCfg v).p = s.p := rfl
@[simp] theorem State.setCfg_pc (s : State) (v : Config) : (s.setCfg v).pc = s.pc := rfl
@[simp] theorem State.setCfg_run (s : State) (v : Config) : (s.setCfg v).run = s.run := rfl
@[simp] theorem State.setCfg_nmiPending (s : State) (v : Config) : (s.setCfg v).nmiPending = s.nmiPending := rfl
@[simp] theorem State.setCfg_irqPending (s : State) (v : Config) : (s.setCfg v).irqPending = s.irqPending := rfl
@[simp] theorem State.setCfg_mem (s : State) (v : Config) : (s.setCfg v).mem = s.mem := rfl
@[simp] theorem State.setCfg_registry (s : State) (v : Config) : (s.setCfg v).registry = s.registry := rfl
@[simp] theorem State.setCfg_debugEnabled (s : State) (v : Config) : (s.setCfg v).debugEnabled = s.debugEnabled := rfl
@[simp] theorem State.setCfg_cfg (s : State) (v : Config) : (s.setCfg v).cfg = v := rfl
@[simp] theorem State.setCfg_obs (s : State) (v : Config) : (s.setCfg v).obs = s.obs := rfl

@[simp] theorem State.setObs_a (s : State) (v : Observed) : (s.setObs v).a = s.a := rfl
@[simp] theorem State.setObs_x (s : State) (v : Observed) : (s.setObs v).x = s.x := rfl
@[simp] theorem State.setObs_y (s : State) (v : Observed) : (s.setObs v).y = s.y := rfl
@[simp] theorem State.setObs_sp (s : State) (v : Observed) : (s.setObs v).sp = s.sp := rfl
@[simp] theorem State.setObs_p (s : State) (v : Observed) : (s.setObs v).p = s.p := rfl
@[simp] theorem State.setObs_pc (s : State) (v : Observed) : (s.setObs v).pc = s.pc := rfl
@[simp] theorem State.setObs_run (s : State) (v : Observed) : (s.setObs v).run = s.run := rfl
@[simp] theorem State.setObs_nmiPending (s : State) (v : Observed) : (s.setObs v).nmiPending = s.nmiPending := rfl
@[simp] theorem State.setObs_irqPending (s : State) (v : Observed) : (s.setObs v).irqPending = s.irqPending := rfl
@[simp] theorem State.setObs_mem (s : State) (v : Observed) : (s.setObs v).mem = s.mem := rfl
@[simp] theorem State.setObs_registry (s : State) (v : Observed) : (s.setObs v).registry = s.registry := rfl
@[simp] theorem State.setObs_debugEnabled (s : State) (v : Observed) : (s.setObs v).debugEnabled = s.debugEnabled := rfl
@[simp] theorem State.setObs_cfg (s : State) (v : Observed) : (s.setObs v).cfg = s.cfg := rfl
@[simp] theorem State.setObs_obs (s : State) (v : Observed) : (s.setObs v).obs = v := rfl

/-! ### The updates and `arch` -/

@[simp] theorem State.arch_a (s : State) : s.arch.a = s.a := rfl
@[simp] theorem State.setA_arch (s : State) (v : Byte) : (s.setA v).arch = s.arch.setA v := rfl
@[simp] theorem State.setA_self (s : State) : s.setA s.a = s := rfl
@[simp] theorem State.setA_setA (s : State) (v w : Byte) : (s.setA v).setA w = s.setA w := rfl
@[simp] theorem State.arch_x (s : State) : s.arch.x = s.x := rfl
@[simp] theorem State.setX_arch (s : State) (v : Byte) : (s.setX v).arch = s.arch.setX v := rfl
@[simp] theorem State.setX_self (s : State) : s.setX s.x = s := rfl
@[simp] theorem State.setX_setX (s : State) (v w : Byte) : (s.setX v).setX w = s.setX w := rfl
@[simp] theorem State.arch_y (s : State) : s.arch.y = s.y := rfl
@[simp] theorem State.setY_arch (s : State) (v : Byte) : (s.setY v).arch = s.arch.setY v := rfl
@[simp] theorem State.setY_self (s : State) : s.setY s.y = s := rfl
@[simp] theorem State.setY_setY (s : State) (v w : Byte) : (s.setY v).setY w = s.setY w := rfl
@[simp] theorem State.arch_sp (s : State) : s.arch.sp = s.sp := rfl
@[simp] theorem State.setSp_arch (s : State) (v : Byte) : (s.setSp v).arch = s.arch.setSp v := rfl
@[simp] theorem State.setSp_self (s : State) : s.setSp s.sp = s := rfl
@[simp] theorem State.setSp_setSp (s : State) (v w : Byte) : (s.setSp v).setSp w = s.setSp w := rfl
@[simp] theorem State.arch_p (s : State) : s.arch.p = s.p := rfl
@[simp] theorem State.setP_arch (s : State) (v : Status) : (s.setP v).arch = s.arch.setP v := rfl
@[simp] theorem State.setP_self (s : State) : s.setP s.p = s := rfl
@[simp] theorem State.setP_setP (s : State) (v w : Status) : (s.setP v).setP w = s.setP w := rfl
@[simp] theorem State.arch_pc (s : State) : s.arch.pc = s.pc := rfl
@[simp] theorem State.setPc_arch (s : State) (v : Word) : (s.setPc v).arch = s.arch.setPc v := rfl
@[simp] theorem State.setPc_self (s : State) : s.setPc s.pc = s := rfl
@[simp] theorem State.setPc_setPc (s : State) (v w : Word) : (s.setPc v).setPc w = s.setPc w := rfl
@[simp] theorem State.arch_run (s : State) : s.arch.run = s.run := rfl
@[simp] theorem State.setRun_arch (s : State) (v : RunState) : (s.setRun v).arch = s.arch.setRun v := rfl
@[simp] theorem State.setRun_self (s : State) : s.setRun s.run = s := rfl
@[simp] theorem State.setRun_setRun (s : State) (v w : RunState) : (s.setRun v).setRun w = s.setRun w := rfl
@[simp] theorem State.arch_nmiPending (s : State) : s.arch.nmiPending = s.nmiPending := rfl
@[simp] theorem State.setNmiPending_arch (s : State) (v : Bool) : (s.setNmiPending v).arch = s.arch.setNmiPending v := rfl
@[simp] theorem State.setNmiPending_self (s : State) : s.setNmiPending s.nmiPending = s := rfl
@[simp] theorem State.setNmiPending_setNmiPending (s : State) (v w : Bool) : (s.setNmiPending v).setNmiPending w = s.setNmiPending w := rfl
@[simp] theorem State.arch_irqPending (s : State) : s.arch.irqPending = s.irqPending := rfl
@[simp] theorem State.setIrqPending_arch (s : State) (v : Bool) : (s.setIrqPending v).arch = s.arch.setIrqPending v := rfl
@[simp] theorem State.setIrqPending_self (s : State) : s.setIrqPending s.irqPending = s := rfl
@[simp] theorem State.setIrqPending_setIrqPending (s : State) (v w : Bool) : (s.setIrqPending v).setIrqPending w = s.setIrqPending w := rfl
@[simp] theorem State.arch_mem (s : State) : s.arch.mem = s.mem := rfl
@[simp] theorem State.setMem_arch (s : State) (v : Memory) : (s.setMem v).arch = s.arch.setMem v := rfl
@[simp] theorem State.setMem_self (s : State) : s.setMem s.mem = s := rfl
@[simp] theorem State.setMem_setMem (s : State) (v w : Memory) : (s.setMem v).setMem w = s.setMem w := rfl
@[simp] theorem State.arch_registry (s : State) : s.arch.registry = s.registry := rfl
@[simp] theorem State.setRegistry_arch (s : State) (v : List Registration) : (s.setRegistry v).arch = s.arch.setRegistry v := rfl
@[simp] theorem State.setRegistry_self (s : State) : s.setRegistry s.registry = s := rfl
@[simp] theorem State.setRegistry_setRegistry (s : State) (v w : List Registration) : (s.setRegistry v).setRegistry w = s.setRegistry w := rfl
@[simp] theorem State.arch_debugEnabled (s : State) : s.arch.debugEnabled = s.debugEnabled := rfl
@[simp] theorem State.setDebugEnabled_arch (s : State) (v : Bool) : (s.setDebugEnabled v).arch = s.arch.setDebugEnabled v := rfl
@[simp] theorem State.setDebugEnabled_self (s : State) : s.setDebugEnabled s.debugEnabled = s := rfl
@[simp] theorem State.setDebugEnabled_setDebugEnabled (s : State) (v w : Bool) : (s.setDebugEnabled v).setDebugEnabled w = s.setDebugEnabled w := rfl
@[simp] theorem State.arch_cfg (s : State) : s.arch.cfg = s.cfg := rfl
@[simp] theorem State.setCfg_arch (s : State) (v : Config) : (s.setCfg v).arch = s.arch.setCfg v := rfl
@[simp] theorem State.setCfg_self (s : State) : s.setCfg s.cfg = s := rfl
@[simp] theorem State.setCfg_setCfg (s : State) (v w : Config) : (s.setCfg v).setCfg w = s.setCfg w := rfl
@[simp] theorem State.arch_obs (s : State) : s.arch.obs = Observed.empty := rfl
@[simp] theorem State.setObs_arch (s : State) (v : Observed) : (s.setObs v).arch = s.arch := rfl
@[simp] theorem State.arch_arch (s : State) : s.arch.arch = s.arch := rfl
@[simp] theorem State.setReg_s (s : State) (v : Byte) : s.setReg .s v = s.setSp v := rfl
@[simp] theorem State.setReg_a (s : State) (v : Byte) : s.setReg .a v = s.setA v := rfl
@[simp] theorem State.setReg_x (s : State) (v : Byte) : s.setReg .x v = s.setX v := rfl
@[simp] theorem State.setReg_y (s : State) (v : Byte) : s.setReg .y v = s.setY v := rfl
@[simp] theorem State.reg_setReg (s : State) (r : Register) (v : Byte) : (s.setReg r v).reg r = v := by cases r <;> rfl

theorem State.reg_setReg_of_ne (s : State) (r q : Register) (v : Byte) (h : q ≠ r) : (s.setReg r v).reg q = s.reg q := by
  cases r <;> cases q <;> first | rfl | exact absurd rfl h

theorem State.setReg_arch (s : State) (r : Register) (v : Byte) : (s.setReg r v).arch = s.arch.setReg r v := by
  cases r <;> rfl

/-! ### The compound updates -/

@[simp] theorem State.halt_a (s : State) (r : HaltReason) : (s.halt r).a = s.a := rfl
@[simp] theorem State.halt_x (s : State) (r : HaltReason) : (s.halt r).x = s.x := rfl
@[simp] theorem State.halt_y (s : State) (r : HaltReason) : (s.halt r).y = s.y := rfl
@[simp] theorem State.halt_sp (s : State) (r : HaltReason) : (s.halt r).sp = s.sp := rfl
@[simp] theorem State.halt_p (s : State) (r : HaltReason) : (s.halt r).p = s.p := rfl
@[simp] theorem State.halt_pc (s : State) (r : HaltReason) : (s.halt r).pc = s.pc := rfl
@[simp] theorem State.halt_nmiPending (s : State) (r : HaltReason) : (s.halt r).nmiPending = s.nmiPending := rfl
@[simp] theorem State.halt_irqPending (s : State) (r : HaltReason) : (s.halt r).irqPending = s.irqPending := rfl
@[simp] theorem State.halt_mem (s : State) (r : HaltReason) : (s.halt r).mem = s.mem := rfl
@[simp] theorem State.halt_registry (s : State) (r : HaltReason) : (s.halt r).registry = s.registry := rfl
@[simp] theorem State.halt_debugEnabled (s : State) (r : HaltReason) : (s.halt r).debugEnabled = s.debugEnabled := rfl
@[simp] theorem State.halt_cfg (s : State) (r : HaltReason) : (s.halt r).cfg = s.cfg := rfl
@[simp] theorem State.halt_obs (s : State) (r : HaltReason) : (s.halt r).obs = s.obs := rfl

@[simp] theorem State.clearObs_a (s : State) : (s.clearObs).a = s.a := rfl
@[simp] theorem State.clearObs_x (s : State) : (s.clearObs).x = s.x := rfl
@[simp] theorem State.clearObs_y (s : State) : (s.clearObs).y = s.y := rfl
@[simp] theorem State.clearObs_sp (s : State) : (s.clearObs).sp = s.sp := rfl
@[simp] theorem State.clearObs_p (s : State) : (s.clearObs).p = s.p := rfl
@[simp] theorem State.clearObs_pc (s : State) : (s.clearObs).pc = s.pc := rfl
@[simp] theorem State.clearObs_run (s : State) : (s.clearObs).run = s.run := rfl
@[simp] theorem State.clearObs_nmiPending (s : State) : (s.clearObs).nmiPending = s.nmiPending := rfl
@[simp] theorem State.clearObs_irqPending (s : State) : (s.clearObs).irqPending = s.irqPending := rfl
@[simp] theorem State.clearObs_mem (s : State) : (s.clearObs).mem = s.mem := rfl
@[simp] theorem State.clearObs_registry (s : State) : (s.clearObs).registry = s.registry := rfl
@[simp] theorem State.clearObs_debugEnabled (s : State) : (s.clearObs).debugEnabled = s.debugEnabled := rfl
@[simp] theorem State.clearObs_cfg (s : State) : (s.clearObs).cfg = s.cfg := rfl
@[simp] theorem State.clearObs_arch (s : State) : (s.clearObs).arch = s.arch := rfl

@[simp] theorem State.observe_a (s : State) (t : BusTransaction) : (s.observe t).a = s.a := rfl
@[simp] theorem State.observe_x (s : State) (t : BusTransaction) : (s.observe t).x = s.x := rfl
@[simp] theorem State.observe_y (s : State) (t : BusTransaction) : (s.observe t).y = s.y := rfl
@[simp] theorem State.observe_sp (s : State) (t : BusTransaction) : (s.observe t).sp = s.sp := rfl
@[simp] theorem State.observe_p (s : State) (t : BusTransaction) : (s.observe t).p = s.p := rfl
@[simp] theorem State.observe_pc (s : State) (t : BusTransaction) : (s.observe t).pc = s.pc := rfl
@[simp] theorem State.observe_run (s : State) (t : BusTransaction) : (s.observe t).run = s.run := rfl
@[simp] theorem State.observe_nmiPending (s : State) (t : BusTransaction) : (s.observe t).nmiPending = s.nmiPending := rfl
@[simp] theorem State.observe_irqPending (s : State) (t : BusTransaction) : (s.observe t).irqPending = s.irqPending := rfl
@[simp] theorem State.observe_mem (s : State) (t : BusTransaction) : (s.observe t).mem = s.mem := rfl
@[simp] theorem State.observe_registry (s : State) (t : BusTransaction) : (s.observe t).registry = s.registry := rfl
@[simp] theorem State.observe_debugEnabled (s : State) (t : BusTransaction) : (s.observe t).debugEnabled = s.debugEnabled := rfl
@[simp] theorem State.observe_cfg (s : State) (t : BusTransaction) : (s.observe t).cfg = s.cfg := rfl
@[simp] theorem State.observe_arch (s : State) (t : BusTransaction) : (s.observe t).arch = s.arch := rfl

@[simp] theorem State.setOutcome_a (s : State) (o : ExecOutcome) : (s.setOutcome o).a = s.a := rfl
@[simp] theorem State.setOutcome_x (s : State) (o : ExecOutcome) : (s.setOutcome o).x = s.x := rfl
@[simp] theorem State.setOutcome_y (s : State) (o : ExecOutcome) : (s.setOutcome o).y = s.y := rfl
@[simp] theorem State.setOutcome_sp (s : State) (o : ExecOutcome) : (s.setOutcome o).sp = s.sp := rfl
@[simp] theorem State.setOutcome_p (s : State) (o : ExecOutcome) : (s.setOutcome o).p = s.p := rfl
@[simp] theorem State.setOutcome_pc (s : State) (o : ExecOutcome) : (s.setOutcome o).pc = s.pc := rfl
@[simp] theorem State.setOutcome_run (s : State) (o : ExecOutcome) : (s.setOutcome o).run = s.run := rfl
@[simp] theorem State.setOutcome_nmiPending (s : State) (o : ExecOutcome) : (s.setOutcome o).nmiPending = s.nmiPending := rfl
@[simp] theorem State.setOutcome_irqPending (s : State) (o : ExecOutcome) : (s.setOutcome o).irqPending = s.irqPending := rfl
@[simp] theorem State.setOutcome_mem (s : State) (o : ExecOutcome) : (s.setOutcome o).mem = s.mem := rfl
@[simp] theorem State.setOutcome_registry (s : State) (o : ExecOutcome) : (s.setOutcome o).registry = s.registry := rfl
@[simp] theorem State.setOutcome_debugEnabled (s : State) (o : ExecOutcome) : (s.setOutcome o).debugEnabled = s.debugEnabled := rfl
@[simp] theorem State.setOutcome_cfg (s : State) (o : ExecOutcome) : (s.setOutcome o).cfg = s.cfg := rfl
@[simp] theorem State.setOutcome_arch (s : State) (o : ExecOutcome) : (s.setOutcome o).arch = s.arch := rfl

@[simp] theorem State.setResult_a (s : State) (r : StepResult) : (s.setResult r).a = s.a := rfl
@[simp] theorem State.setResult_x (s : State) (r : StepResult) : (s.setResult r).x = s.x := rfl
@[simp] theorem State.setResult_y (s : State) (r : StepResult) : (s.setResult r).y = s.y := rfl
@[simp] theorem State.setResult_sp (s : State) (r : StepResult) : (s.setResult r).sp = s.sp := rfl
@[simp] theorem State.setResult_p (s : State) (r : StepResult) : (s.setResult r).p = s.p := rfl
@[simp] theorem State.setResult_pc (s : State) (r : StepResult) : (s.setResult r).pc = s.pc := rfl
@[simp] theorem State.setResult_run (s : State) (r : StepResult) : (s.setResult r).run = s.run := rfl
@[simp] theorem State.setResult_nmiPending (s : State) (r : StepResult) : (s.setResult r).nmiPending = s.nmiPending := rfl
@[simp] theorem State.setResult_irqPending (s : State) (r : StepResult) : (s.setResult r).irqPending = s.irqPending := rfl
@[simp] theorem State.setResult_mem (s : State) (r : StepResult) : (s.setResult r).mem = s.mem := rfl
@[simp] theorem State.setResult_registry (s : State) (r : StepResult) : (s.setResult r).registry = s.registry := rfl
@[simp] theorem State.setResult_debugEnabled (s : State) (r : StepResult) : (s.setResult r).debugEnabled = s.debugEnabled := rfl
@[simp] theorem State.setResult_cfg (s : State) (r : StepResult) : (s.setResult r).cfg = s.cfg := rfl
@[simp] theorem State.setResult_arch (s : State) (r : StepResult) : (s.setResult r).arch = s.arch := rfl

@[simp] theorem State.setEvent_a (s : State) (e : Option DebugEvent) : (s.setEvent e).a = s.a := rfl
@[simp] theorem State.setEvent_x (s : State) (e : Option DebugEvent) : (s.setEvent e).x = s.x := rfl
@[simp] theorem State.setEvent_y (s : State) (e : Option DebugEvent) : (s.setEvent e).y = s.y := rfl
@[simp] theorem State.setEvent_sp (s : State) (e : Option DebugEvent) : (s.setEvent e).sp = s.sp := rfl
@[simp] theorem State.setEvent_p (s : State) (e : Option DebugEvent) : (s.setEvent e).p = s.p := rfl
@[simp] theorem State.setEvent_pc (s : State) (e : Option DebugEvent) : (s.setEvent e).pc = s.pc := rfl
@[simp] theorem State.setEvent_run (s : State) (e : Option DebugEvent) : (s.setEvent e).run = s.run := rfl
@[simp] theorem State.setEvent_nmiPending (s : State) (e : Option DebugEvent) : (s.setEvent e).nmiPending = s.nmiPending := rfl
@[simp] theorem State.setEvent_irqPending (s : State) (e : Option DebugEvent) : (s.setEvent e).irqPending = s.irqPending := rfl
@[simp] theorem State.setEvent_mem (s : State) (e : Option DebugEvent) : (s.setEvent e).mem = s.mem := rfl
@[simp] theorem State.setEvent_registry (s : State) (e : Option DebugEvent) : (s.setEvent e).registry = s.registry := rfl
@[simp] theorem State.setEvent_debugEnabled (s : State) (e : Option DebugEvent) : (s.setEvent e).debugEnabled = s.debugEnabled := rfl
@[simp] theorem State.setEvent_cfg (s : State) (e : Option DebugEvent) : (s.setEvent e).cfg = s.cfg := rfl
@[simp] theorem State.setEvent_arch (s : State) (e : Option DebugEvent) : (s.setEvent e).arch = s.arch := rfl

@[simp] theorem State.halt_run (s : State) (r : HaltReason) : (s.halt r).run = .halted r := rfl
@[simp] theorem State.halt_arch (s : State) (r : HaltReason) : (s.halt r).arch = s.arch.halt r := rfl
@[simp] theorem State.clearObs_obs (s : State) : s.clearObs.obs = Observed.empty := rfl
@[simp] theorem State.observe_trace (s : State) (t : BusTransaction) : (s.observe t).obs.trace = s.obs.trace ++ [t] := rfl
@[simp] theorem State.observe_outcome (s : State) (t : BusTransaction) : (s.observe t).obs.outcome = s.obs.outcome := rfl
@[simp] theorem State.setOutcome_trace (s : State) (o : ExecOutcome) : (s.setOutcome o).obs.trace = s.obs.trace := rfl
@[simp] theorem State.setOutcome_outcome (s : State) (o : ExecOutcome) : (s.setOutcome o).obs.outcome = o := rfl
@[simp] theorem State.setResult_result (s : State) (r : StepResult) : (s.setResult r).obs.result = some r := rfl
@[simp] theorem State.setResult_trace (s : State) (r : StepResult) : (s.setResult r).obs.trace = s.obs.trace := rfl
@[simp] theorem State.setResult_event (s : State) (r : StepResult) : (s.setResult r).obs.event = s.obs.event := rfl
@[simp] theorem State.setEvent_event (s : State) (e : Option DebugEvent) : (s.setEvent e).obs.event = e := rfl
@[simp] theorem State.setEvent_trace (s : State) (e : Option DebugEvent) : (s.setEvent e).obs.trace = s.obs.trace := rfl

/-- Agreement on everything but the outputs, field by field. -/
theorem State.arch_eq_iff (s t : State) : s.arch = t.arch ↔
    s.a = t.a ∧ s.x = t.x ∧ s.y = t.y ∧ s.sp = t.sp ∧ s.p = t.p ∧ s.pc = t.pc ∧ s.run = t.run ∧
    s.nmiPending = t.nmiPending ∧ s.irqPending = t.irqPending ∧ s.mem = t.mem ∧ s.registry = t.registry ∧
    s.debugEnabled = t.debugEnabled ∧ s.cfg = t.cfg := by
  cases s
  cases t
  simp [State.arch, State.setObs]

end Sys2Proof.Machine
end

