-- ==== Sys2Proof/Laws/Outcome.lean ====
section
/-! SUPPORT. How computations compose: the laws of `andThen`, `CompletesAs` and `AnswersAs`, and what agreement under `arch` gives field by
field. -/

namespace Sys2Proof.Machine

theorem State.a_of_arch {s t : State} (h : s.arch = t.arch) : s.a = t.a := by
  simpa using congrArg State.a h
theorem State.x_of_arch {s t : State} (h : s.arch = t.arch) : s.x = t.x := by
  simpa using congrArg State.x h
theorem State.y_of_arch {s t : State} (h : s.arch = t.arch) : s.y = t.y := by
  simpa using congrArg State.y h
theorem State.sp_of_arch {s t : State} (h : s.arch = t.arch) : s.sp = t.sp := by
  simpa using congrArg State.sp h
theorem State.p_of_arch {s t : State} (h : s.arch = t.arch) : s.p = t.p := by
  simpa using congrArg State.p h
theorem State.pc_of_arch {s t : State} (h : s.arch = t.arch) : s.pc = t.pc := by
  simpa using congrArg State.pc h
theorem State.run_of_arch {s t : State} (h : s.arch = t.arch) : s.run = t.run := by
  simpa using congrArg State.run h
theorem State.nmiPending_of_arch {s t : State} (h : s.arch = t.arch) : s.nmiPending = t.nmiPending := by
  simpa using congrArg State.nmiPending h
theorem State.irqPending_of_arch {s t : State} (h : s.arch = t.arch) : s.irqPending = t.irqPending := by
  simpa using congrArg State.irqPending h
theorem State.mem_of_arch {s t : State} (h : s.arch = t.arch) : s.mem = t.mem := by
  simpa using congrArg State.mem h
theorem State.registry_of_arch {s t : State} (h : s.arch = t.arch) : s.registry = t.registry := by
  simpa using congrArg State.registry h
theorem State.debugEnabled_of_arch {s t : State} (h : s.arch = t.arch) : s.debugEnabled = t.debugEnabled := by
  simpa using congrArg State.debugEnabled h
theorem State.cfg_of_arch {s t : State} (h : s.arch = t.arch) : s.cfg = t.cfg := by
  simpa using congrArg State.cfg h

theorem State.memoryReady_of_arch {s t : State} (h : s.arch = t.arch) (ht : t.MemoryReady) : s.MemoryReady := by
  simpa only [State.MemoryReady, State.busReady, State.registry_of_arch h] using ht

theorem State.address_of_arch {s t : State} (h : s.arch = t.arch) (m : MemOperand) : m.address s = m.address t := by
  cases m <;> simp [MemOperand.address, pointerAt, State.x_of_arch h, State.y_of_arch h, State.mem_of_arch h]

@[simp] theorem State.setZN_arch (s : State) (v : Byte) : (s.setZN v).arch = s.arch.setZN v := rfl

/-- MemoryReady is about the registry alone. -/
theorem State.memoryReady_iff (s : State) : s.MemoryReady ↔
    ∃ r, findComponent s.registry "Memory" = some r ∧ r.handle = .memory ∧ r.inFlight = false := by
  unfold State.MemoryReady State.busReady
  split
  · next r hr => simp [hr, beq_iff_eq]
  · next hr => simp [hr]

theorem State.memoryReady_of_registry {s t : State} (h : t.registry = s.registry) (hs : s.MemoryReady) : t.MemoryReady := by
  simpa only [State.MemoryReady, State.busReady, h] using hs

theorem State.Scoped.memoryReady {s : State} (h : s.Scoped) : s.MemoryReady := by
  rw [State.memoryReady_iff, h]
  exact ⟨_, rfl, rfl, rfl⟩

/-! ### andThen -/

@[simp] theorem andThen_next {α β : Type} (v : α) (k : α → Host.Outcome β Fault Refusal) : andThen (.next v) k = k v := rfl

@[simp] theorem andThen_fault {α β : Type} (f : Fault) (k : α → Host.Outcome β Fault Refusal) :
    andThen (.fault f) k = .fault f := rfl

@[simp] theorem andThen_refused {α β : Type} (f : Refusal) (k : α → Host.Outcome β Fault Refusal) :
    andThen (.refused f) k = .refused f := rfl

/-- A composition has a next state only through a next state of its first part. -/
theorem andThen_eq_next {α β : Type} {r : Host.Outcome α Fault Refusal} {k : α → Host.Outcome β Fault Refusal} {w : β} :
    andThen r k = .next w ↔ ∃ v, r = .next v ∧ k v = .next w := by
  cases r <;> simp [andThen]

/-! ### Completion -/

theorem CompletesAs.intro {s e : State} (h : s.arch = e.arch) : CompletesAs (.next s) e := ⟨s, rfl, h⟩

theorem CompletesAs.congr {r : Host.Outcome State Fault Refusal} {e e' : State} (h : CompletesAs r e)
    (he : e.arch = e'.arch) : CompletesAs r e' := by
  obtain ⟨t, hr, ht⟩ := h
  exact ⟨t, hr, ht.trans he⟩

/-- After a completed part, the rest runs on a state that agrees with its expected one. -/
theorem CompletesAs.andThen {r : Host.Outcome State Fault Refusal} {k : State → Host.Outcome State Fault Refusal} {u e : State}
    (h : CompletesAs r u) (hk : ∀ t, t.arch = u.arch → CompletesAs (k t) e) : CompletesAs (Machine.andThen r k) e := by
  obtain ⟨t, rfl, ht⟩ := h
  exact hk t ht

theorem AnswersAs.andThen {α : Type} {r : Host.Outcome (α × State) Fault Refusal}
    {k : α × State → Host.Outcome State Fault Refusal} {v : α} {u e : State} (h : AnswersAs r v u)
    (hk : ∀ t, t.arch = u.arch → CompletesAs (k (v, t)) e) : CompletesAs (Machine.andThen r k) e := by
  obtain ⟨t, rfl, ht⟩ := h
  exact hk t ht

theorem AnswersAs.bind {α β : Type} {r : Host.Outcome (α × State) Fault Refusal}
    {k : α × State → Host.Outcome (β × State) Fault Refusal} {v : α} {w : β} {u e : State} (h : AnswersAs r v u)
    (hk : ∀ t, t.arch = u.arch → AnswersAs (k (v, t)) w e) : AnswersAs (Machine.andThen r k) w e := by
  obtain ⟨t, rfl, ht⟩ := h
  exact hk t ht

theorem CompletesAs.bind {β : Type} {r : Host.Outcome State Fault Refusal}
    {k : State → Host.Outcome (β × State) Fault Refusal} {w : β} {u e : State} (h : CompletesAs r u)
    (hk : ∀ t, t.arch = u.arch → AnswersAs (k t) w e) : AnswersAs (Machine.andThen r k) w e := by
  obtain ⟨t, rfl, ht⟩ := h
  exact hk t ht

theorem AnswersAs.intro {α : Type} {v : α} {s e : State} (h : s.arch = e.arch) : AnswersAs (.next (v, s)) v e := ⟨s, rfl, h⟩

theorem AnswersAs.congr {α : Type} {r : Host.Outcome (α × State) Fault Refusal} {v : α} {e e' : State}
    (h : AnswersAs r v e) (he : e.arch = e'.arch) : AnswersAs r v e' := by
  obtain ⟨t, hr, ht⟩ := h
  exact ⟨t, hr, ht.trans he⟩

/-- A completed computation has one next state. -/
theorem CompletesAs.eq {r : Host.Outcome State Fault Refusal} {e t : State} (h : CompletesAs r e) (ht : r = .next t) :
    t.arch = e.arch := by
  obtain ⟨u, hu, ha⟩ := h
  cases ht.symm.trans hu
  exact ha

/-- An answering computation has one answer. -/
theorem AnswersAs.eq {α : Type} {r : Host.Outcome (α × State) Fault Refusal} {v w : α} {e t : State} (h : AnswersAs r v e)
    (ht : r = .next (w, t)) : w = v ∧ t.arch = e.arch := by
  obtain ⟨u, hu, ha⟩ := h
  cases ht.symm.trans hu
  exact ⟨rfl, ha⟩

theorem complete_completes (o : ExecOutcome) {s e : State} (h : s.arch = e.arch) : CompletesAs (complete o s) e :=
  CompletesAs.intro (by simpa using h)

theorem complete_next {o : ExecOutcome} {s t : State} (h : complete o s = .next t) : t = s.setOutcome o := by
  cases h
  rfl

end Sys2Proof.Machine
end

