-- ==== Sys2Proof/Laws/Bus.lean ====
section
/-! SUPPORT. What the two memory primitives can do: they complete exactly when Memory is ready, a read answers the cell and changes nothing but the
trace, a write sets the one cell. -/

namespace Sys2Proof.Machine

@[simp] theorem Component.respond_arch (c : Component) (t : BusTransaction) (s : State) : (c.respond t s).arch = s.arch := by
  cases c <;> rfl

/-- The initiator's hook changes nothing but the outputs (R67). -/
@[simp] theorem respondTo_arch (n : String) (t : BusTransaction) (s : State) : (respondTo n t s).arch = s.arch := by
  unfold respondTo
  split <;> simp

/-- On the scoped platform the CPU observes every transaction it makes. -/
theorem respondTo_scoped {s : State} (h : s.Scoped) (t : BusTransaction) : respondTo "CPU" t s = s.observe t := by
  simp [respondTo, h, scopedRegistry, findComponent, Component.respond]

/-- Everything a read can do. -/
theorem memRead_cases (addr : Word) (s : State) :
    (s.MemoryReady ∧ memRead addr s = .next (s.mem.read addr, respondTo "CPU" ⟨addr, s.mem.read addr, .read⟩ s)) ∨
      (¬ s.MemoryReady ∧ ∀ r, memRead addr s ≠ .next r) := by
  by_cases h : s.MemoryReady
  · refine .inl ⟨h, ?_⟩
    obtain ⟨r, hf, hh, hg⟩ := s.memoryReady_iff.1 h
    simp [memRead, busExecute, hf, hh, hg, Component.process]
  · refine .inr ⟨h, fun r => ?_⟩
    unfold memRead busExecute
    split
    · simp
    · next q hq =>
      by_cases hg : q.inFlight = true
      · simp [hg]
      · cases hh : q.handle with
        | cpu => simp [hg, Component.process]
        | memory => exact absurd (s.memoryReady_iff.2 ⟨q, hq, hh, by simpa using hg⟩) h

/-- Everything a write can do. -/
theorem memWrite_cases (addr : Word) (v : Byte) (s : State) :
    (s.MemoryReady ∧ memWrite addr v s = .next (respondTo "CPU" ⟨addr, v, .write⟩ (s.setMem (s.mem.write addr v)))) ∨
      (¬ s.MemoryReady ∧ ∀ r, memWrite addr v s ≠ .next r) := by
  by_cases h : s.MemoryReady
  · refine .inl ⟨h, ?_⟩
    obtain ⟨r, hf, hh, hg⟩ := s.memoryReady_iff.1 h
    simp [memWrite, busExecute, hf, hh, hg, Component.process]
  · refine .inr ⟨h, fun r => ?_⟩
    unfold memWrite busExecute
    split
    · simp
    · next q hq =>
      by_cases hg : q.inFlight = true
      · simp [hg]
      · cases hh : q.handle with
        | cpu => simp [hg, Component.process]
        | memory => exact absurd (s.memoryReady_iff.2 ⟨q, hq, hh, by simpa using hg⟩) h

theorem memRead_answers {s : State} (h : s.MemoryReady) (addr : Word) : AnswersAs (memRead addr s) (s.mem.read addr) s := by
  rcases memRead_cases addr s with ⟨_, e⟩ | ⟨n, _⟩
  · exact ⟨_, e, respondTo_arch ..⟩
  · exact absurd h n

theorem memRead_next {addr : Word} {s t : State} {v : Byte} (h : memRead addr s = .next (v, t)) :
    s.MemoryReady ∧ v = s.mem.read addr ∧ t.arch = s.arch := by
  rcases memRead_cases addr s with ⟨hr, e⟩ | ⟨_, n⟩
  · rw [e] at h
    cases h
    exact ⟨hr, rfl, respondTo_arch ..⟩
  · exact absurd h (n _)

theorem memWrite_completes {s : State} (h : s.MemoryReady) (addr : Word) (v : Byte) :
    CompletesAs (memWrite addr v s) (s.setMem (s.mem.write addr v)) := by
  rcases memWrite_cases addr v s with ⟨_, e⟩ | ⟨n, _⟩
  · exact ⟨_, e, respondTo_arch ..⟩
  · exact absurd h n

theorem memWrite_next {addr : Word} {v : Byte} {s t : State} (h : memWrite addr v s = .next t) :
    s.MemoryReady ∧ t.arch = (s.setMem (s.mem.write addr v)).arch := by
  rcases memWrite_cases addr v s with ⟨hr, e⟩ | ⟨_, n⟩
  · rw [e] at h
    cases h
    exact ⟨hr, respondTo_arch ..⟩
  · exact absurd h (n _)

/-- On the scoped platform, the read and the transaction it leaves in the trace. -/
theorem memRead_scoped {s : State} (h : s.Scoped) (addr : Word) :
    memRead addr s = .next (s.mem.read addr, s.observe ⟨addr, s.mem.read addr, .read⟩) := by
  rcases memRead_cases addr s with ⟨_, e⟩ | ⟨n, _⟩
  · rw [e, respondTo_scoped h]
  · exact absurd h.memoryReady n

/-- On the scoped platform, the write and the transaction it leaves in the trace. -/
theorem memWrite_scoped {s : State} (h : s.Scoped) (addr : Word) (v : Byte) :
    memWrite addr v s = .next ((s.setMem (s.mem.write addr v)).observe ⟨addr, v, .write⟩) := by
  rcases memWrite_cases addr v s with ⟨_, e⟩ | ⟨n, _⟩
  · rw [e, respondTo_scoped (s := s.setMem (s.mem.write addr v)) h]
  · exact absurd h.memoryReady n

end Sys2Proof.Machine
end

