-- ==== Sys2Proof/Laws/Ops.lean ====
section
/-! SUPPORT. What the shared operations of Machine/Ops.lean do when Memory is ready, and that a next state says it was. -/

namespace Sys2Proof.Machine

/-- What a 16-bit little-endian read answers (R62). -/
def State.word (s : State) (addr : Word) : Word := ofBytes (s.mem.read (addr + 1)) (s.mem.read addr)

/-- The state a push leaves (R126). -/
def State.pushed (s : State) (v : Byte) : State := (s.setMem (s.mem.write (stackAddress s.sp) v)).setSp (s.sp - 1)

/-- The state a pull leaves (R127). -/
def State.pulled (s : State) : State := s.setSp (s.sp + 1)

/-- The byte a pull answers (R127). -/
def State.top (s : State) : Byte := s.mem.read (stackAddress (s.sp + 1))

@[simp] theorem State.pushed_arch (s : State) (v : Byte) : (s.pushed v).arch = s.arch.pushed v := rfl
@[simp] theorem State.pulled_arch (s : State) : s.pulled.arch = s.arch.pulled := rfl

@[simp] theorem State.pushed_a (s : State) (v : Byte) : (s.pushed v).a = s.a := rfl
@[simp] theorem State.pushed_x (s : State) (v : Byte) : (s.pushed v).x = s.x := rfl
@[simp] theorem State.pushed_y (s : State) (v : Byte) : (s.pushed v).y = s.y := rfl
@[simp] theorem State.pushed_p (s : State) (v : Byte) : (s.pushed v).p = s.p := rfl
@[simp] theorem State.pushed_pc (s : State) (v : Byte) : (s.pushed v).pc = s.pc := rfl
@[simp] theorem State.pushed_run (s : State) (v : Byte) : (s.pushed v).run = s.run := rfl
@[simp] theorem State.pushed_nmiPending (s : State) (v : Byte) : (s.pushed v).nmiPending = s.nmiPending := rfl
@[simp] theorem State.pushed_irqPending (s : State) (v : Byte) : (s.pushed v).irqPending = s.irqPending := rfl
@[simp] theorem State.pushed_registry (s : State) (v : Byte) : (s.pushed v).registry = s.registry := rfl
@[simp] theorem State.pushed_debugEnabled (s : State) (v : Byte) : (s.pushed v).debugEnabled = s.debugEnabled := rfl
@[simp] theorem State.pushed_cfg (s : State) (v : Byte) : (s.pushed v).cfg = s.cfg := rfl
@[simp] theorem State.pushed_obs (s : State) (v : Byte) : (s.pushed v).obs = s.obs := rfl
@[simp] theorem State.pulled_a (s : State) : (s.pulled).a = s.a := rfl
@[simp] theorem State.pulled_x (s : State) : (s.pulled).x = s.x := rfl
@[simp] theorem State.pulled_y (s : State) : (s.pulled).y = s.y := rfl
@[simp] theorem State.pulled_p (s : State) : (s.pulled).p = s.p := rfl
@[simp] theorem State.pulled_pc (s : State) : (s.pulled).pc = s.pc := rfl
@[simp] theorem State.pulled_run (s : State) : (s.pulled).run = s.run := rfl
@[simp] theorem State.pulled_nmiPending (s : State) : (s.pulled).nmiPending = s.nmiPending := rfl
@[simp] theorem State.pulled_irqPending (s : State) : (s.pulled).irqPending = s.irqPending := rfl
@[simp] theorem State.pulled_mem (s : State) : (s.pulled).mem = s.mem := rfl
@[simp] theorem State.pulled_registry (s : State) : (s.pulled).registry = s.registry := rfl
@[simp] theorem State.pulled_debugEnabled (s : State) : (s.pulled).debugEnabled = s.debugEnabled := rfl
@[simp] theorem State.pulled_cfg (s : State) : (s.pulled).cfg = s.cfg := rfl
@[simp] theorem State.pulled_obs (s : State) : (s.pulled).obs = s.obs := rfl
@[simp] theorem State.pushed_sp (s : State) (v : Byte) : (s.pushed v).sp = s.sp - 1 := rfl
@[simp] theorem State.pushed_mem (s : State) (v : Byte) : (s.pushed v).mem = s.mem.write (stackAddress s.sp) v := rfl
@[simp] theorem State.pulled_sp (s : State) : s.pulled.sp = s.sp + 1 := rfl

theorem State.word_of_arch {s t : State} (h : s.arch = t.arch) (addr : Word) : s.word addr = t.word addr := by
  simp [State.word, State.mem_of_arch h]

theorem State.top_of_arch {s t : State} (h : s.arch = t.arch) : s.top = t.top := by
  simp [State.top, State.mem_of_arch h, State.sp_of_arch h]

theorem State.MemoryReady.pushed {s : State} (h : s.MemoryReady) (v : Byte) : (s.pushed v).MemoryReady :=
  State.memoryReady_of_registry rfl h
theorem State.MemoryReady.pulled {s : State} (h : s.MemoryReady) : s.pulled.MemoryReady :=
  State.memoryReady_of_registry rfl h

theorem read16_answers {s : State} (h : s.MemoryReady) (addr : Word) : AnswersAs (read16 addr s) (s.word addr) s := by
  refine (memRead_answers h addr).bind fun t ht => ?_
  refine (memRead_answers (State.memoryReady_of_arch ht h) _).bind fun u hu => ?_
  rw [State.mem_of_arch ht]
  exact AnswersAs.intro (hu.trans ht)

theorem readPointer_answers {s : State} (h : s.MemoryReady) (z : Byte) :
    AnswersAs (readPointer z s) (pointerAt z s) s := by
  refine (memRead_answers h _).bind fun t ht => ?_
  refine (memRead_answers (State.memoryReady_of_arch ht h) _).bind fun u hu => ?_
  rw [State.mem_of_arch ht]
  exact AnswersAs.intro (hu.trans ht)

theorem push8_completes {s : State} (h : s.MemoryReady) (v : Byte) : CompletesAs (push8 v s) (s.pushed v) := by
  refine (memWrite_completes h _ v).andThen fun t ht => CompletesAs.intro ?_
  have hsp : t.sp = s.sp := by simpa using State.sp_of_arch ht
  rw [State.setSp_arch, ht, hsp]
  rfl

theorem pull8_answers {s : State} (h : s.MemoryReady) : AnswersAs (pull8 s) s.top s.pulled :=
  memRead_answers (s := s.pulled) h.pulled _

theorem push16_completes {s : State} (h : s.MemoryReady) (w : Word) :
    CompletesAs (push16 w s) ((s.pushed (hiByte w)).pushed (loByte w)) := by
  refine (push8_completes h _).andThen fun t ht => ?_
  refine (push8_completes (State.memoryReady_of_arch ht (h.pushed _)) _).congr ?_
  rw [State.pushed_arch, ht, State.pushed_arch, State.pushed_arch, State.pushed_arch]

theorem pull16_answers {s : State} (h : s.MemoryReady) : AnswersAs (pull16 s) (ofBytes s.pulled.top s.top) s.pulled.pulled := by
  refine (pull8_answers h).bind fun t ht => ?_
  refine (pull8_answers (State.memoryReady_of_arch ht h.pulled)).bind fun u hu => ?_
  rw [State.top_of_arch ht]
  refine AnswersAs.intro (hu.trans ?_)
  rw [State.pulled_arch, ht, ← State.pulled_arch]

/-- The state the three pushes leave (R240, R265). -/
def State.framed (s : State) (ret : Word) (status : Byte) : State :=
  ((s.pushed (hiByte ret)).pushed (loByte ret)).pushed status

@[simp] theorem State.framed_arch (s : State) (ret : Word) (status : Byte) :
    (s.framed ret status).arch = s.arch.framed ret status := rfl

@[simp] theorem State.framed_a (s : State) (ret : Word) (status : Byte) : (s.framed ret status).a = s.a := rfl
@[simp] theorem State.framed_x (s : State) (ret : Word) (status : Byte) : (s.framed ret status).x = s.x := rfl
@[simp] theorem State.framed_y (s : State) (ret : Word) (status : Byte) : (s.framed ret status).y = s.y := rfl
@[simp] theorem State.framed_p (s : State) (ret : Word) (status : Byte) : (s.framed ret status).p = s.p := rfl
@[simp] theorem State.framed_pc (s : State) (ret : Word) (status : Byte) : (s.framed ret status).pc = s.pc := rfl
@[simp] theorem State.framed_run (s : State) (ret : Word) (status : Byte) : (s.framed ret status).run = s.run := rfl
@[simp] theorem State.framed_nmiPending (s : State) (ret : Word) (status : Byte) : (s.framed ret status).nmiPending = s.nmiPending := rfl
@[simp] theorem State.framed_irqPending (s : State) (ret : Word) (status : Byte) : (s.framed ret status).irqPending = s.irqPending := rfl
@[simp] theorem State.framed_registry (s : State) (ret : Word) (status : Byte) : (s.framed ret status).registry = s.registry := rfl
@[simp] theorem State.framed_debugEnabled (s : State) (ret : Word) (status : Byte) : (s.framed ret status).debugEnabled = s.debugEnabled := rfl
@[simp] theorem State.framed_cfg (s : State) (ret : Word) (status : Byte) : (s.framed ret status).cfg = s.cfg := rfl
@[simp] theorem State.framed_obs (s : State) (ret : Word) (status : Byte) : (s.framed ret status).obs = s.obs := rfl
@[simp] theorem State.framed_sp (s : State) (ret : Word) (status : Byte) : (s.framed ret status).sp = s.sp - 1 - 1 - 1 := rfl

theorem State.MemoryReady.framed {s : State} (h : s.MemoryReady) (ret : Word) (status : Byte) :
    (s.framed ret status).MemoryReady := State.memoryReady_of_registry rfl h

theorem pushFrame_completes {s : State} (h : s.MemoryReady) (ret : Word) (status : Byte) :
    CompletesAs (pushFrame ret status s) (s.framed ret status) := by
  refine (push16_completes h ret).andThen fun t ht => ?_
  refine (push8_completes (State.memoryReady_of_arch ht ((h.pushed _).pushed _)) status).congr ?_
  rw [State.pushed_arch, ht, ← State.pushed_arch]
  rfl

/-- The state an interrupt entry leaves (R265). -/
def State.entered (s : State) (k : InterruptKind) : State :=
  let u := ((s.framed s.pc s.p.toByte).setP (s.p.onEntry s.cfg)).setPending k false
  u.setPc (u.word k.vector)

theorem serviceInterrupt_completes {s : State} (h : s.MemoryReady) (k : InterruptKind) :
    CompletesAs (serviceInterrupt k s) (s.entered k) := by
  refine (pushFrame_completes h _ _).andThen fun t ht => ?_
  have hp : t.p = s.p := by simpa using State.p_of_arch ht
  have hc : t.cfg = s.cfg := by simpa using State.cfg_of_arch ht
  have hu : ((t.setP (t.p.onEntry t.cfg)).setPending k false).arch =
      (((s.framed s.pc s.p.toByte).setP (s.p.onEntry s.cfg)).setPending k false).arch := by
    rw [hp, hc]
    cases k <;> simp [State.setPending, ht]
  have hr : ((t.setP (t.p.onEntry t.cfg)).setPending k false).registry = s.registry := by
    have := State.registry_of_arch ht
    cases k <;> simpa [State.setPending] using this
  refine (read16_answers (State.memoryReady_of_registry hr h) _).andThen fun w hw => CompletesAs.intro ?_
  rw [State.setPc_arch, hw, hu, State.word_of_arch hu]
  rfl

/-- The state BRK leaves (R240). -/
def State.broken (s : State) : State :=
  ((s.framed (s.pc + s.cfg.brkPushAddend) (s.p.toByte ||| 0x10)).setP { s.p with i := true }).halt .brk

theorem takeBreak_completes {s : State} (h : s.MemoryReady) : CompletesAs (takeBreak s) s.broken := by
  refine (pushFrame_completes h _ _).andThen fun t ht => CompletesAs.intro ?_
  have hp : t.p = s.p := by simpa using State.p_of_arch ht
  rw [State.halt_arch, State.setP_arch, ht, hp]
  rfl

/-- The state a return from interrupt leaves (R241). -/
def State.returned (s : State) : State :=
  (s.pulled.pulled.pulled.setP (s.p.restore s.top)).setPc (ofBytes s.pulled.pulled.top s.pulled.top)

theorem returnFromInterrupt_completes {s : State} (h : s.MemoryReady) : CompletesAs (returnFromInterrupt s) s.returned := by
  refine (pull8_answers h).andThen fun t ht => ?_
  have hp : t.p = s.p := by simpa using State.p_of_arch ht
  have ha : (t.setP (t.p.restore s.top)).arch = (s.pulled.setP (s.p.restore s.top)).arch := by
    rw [State.setP_arch, ht, hp]
    rfl
  refine (pull16_answers (State.memoryReady_of_arch ha (State.memoryReady_of_registry rfl h))).andThen fun u hu => CompletesAs.intro ?_
  have ha' : (t.setP (t.p.restore s.top)).pulled.arch = (s.pulled.setP (s.p.restore s.top)).pulled.arch := by
    rw [State.pulled_arch, ha, ← State.pulled_arch]
  rw [State.setPc_arch, hu, State.top_of_arch ha, State.top_of_arch ha', State.pulled_arch, ha', ← State.pulled_arch]
  rfl

@[simp] theorem State.entered_a (s : State) (k : InterruptKind) : (s.entered k).a = s.a := by cases k <;> simp [State.entered, State.setPending]
@[simp] theorem State.entered_x (s : State) (k : InterruptKind) : (s.entered k).x = s.x := by cases k <;> simp [State.entered, State.setPending]
@[simp] theorem State.entered_y (s : State) (k : InterruptKind) : (s.entered k).y = s.y := by cases k <;> simp [State.entered, State.setPending]
@[simp] theorem State.entered_run (s : State) (k : InterruptKind) : (s.entered k).run = s.run := by cases k <;> simp [State.entered, State.setPending]
@[simp] theorem State.entered_registry (s : State) (k : InterruptKind) : (s.entered k).registry = s.registry := by cases k <;> simp [State.entered, State.setPending]
@[simp] theorem State.entered_debugEnabled (s : State) (k : InterruptKind) : (s.entered k).debugEnabled = s.debugEnabled := by cases k <;> simp [State.entered, State.setPending]
@[simp] theorem State.entered_cfg (s : State) (k : InterruptKind) : (s.entered k).cfg = s.cfg := by cases k <;> simp [State.entered, State.setPending]
@[simp] theorem State.entered_sp (s : State) (k : InterruptKind) : (s.entered k).sp = s.sp - 1 - 1 - 1 := by cases k <;> simp [State.entered, State.setPending]
@[simp] theorem State.entered_p (s : State) (k : InterruptKind) : (s.entered k).p = s.p.onEntry s.cfg := by cases k <;> simp [State.entered, State.setPending]
@[simp] theorem State.entered_mem (s : State) (k : InterruptKind) : (s.entered k).mem = (s.framed s.pc s.p.toByte).mem := by cases k <;> simp [State.entered, State.setPending]

@[simp] theorem State.broken_a (s : State) : (s.broken).a = s.a := by simp [State.broken, State.halt]
@[simp] theorem State.broken_x (s : State) : (s.broken).x = s.x := by simp [State.broken, State.halt]
@[simp] theorem State.broken_y (s : State) : (s.broken).y = s.y := by simp [State.broken, State.halt]
@[simp] theorem State.broken_pc (s : State) : (s.broken).pc = s.pc := by simp [State.broken, State.halt]
@[simp] theorem State.broken_nmiPending (s : State) : (s.broken).nmiPending = s.nmiPending := by simp [State.broken, State.halt]
@[simp] theorem State.broken_irqPending (s : State) : (s.broken).irqPending = s.irqPending := by simp [State.broken, State.halt]
@[simp] theorem State.broken_registry (s : State) : (s.broken).registry = s.registry := by simp [State.broken, State.halt]
@[simp] theorem State.broken_debugEnabled (s : State) : (s.broken).debugEnabled = s.debugEnabled := by simp [State.broken, State.halt]
@[simp] theorem State.broken_cfg (s : State) : (s.broken).cfg = s.cfg := by simp [State.broken, State.halt]
@[simp] theorem State.broken_sp (s : State) : (s.broken).sp = s.sp - 1 - 1 - 1 := by simp [State.broken, State.halt]
@[simp] theorem State.broken_run (s : State) : (s.broken).run = .halted .brk := by simp [State.broken, State.halt]
@[simp] theorem State.broken_mem (s : State) : (s.broken).mem = (s.framed (s.pc + s.cfg.brkPushAddend) (s.p.toByte ||| 0x10)).mem := by simp [State.broken, State.halt]

@[simp] theorem State.returned_a (s : State) : (s.returned).a = s.a := by simp [State.returned]
@[simp] theorem State.returned_x (s : State) : (s.returned).x = s.x := by simp [State.returned]
@[simp] theorem State.returned_y (s : State) : (s.returned).y = s.y := by simp [State.returned]
@[simp] theorem State.returned_run (s : State) : (s.returned).run = s.run := by simp [State.returned]
@[simp] theorem State.returned_mem (s : State) : (s.returned).mem = s.mem := by simp [State.returned]
@[simp] theorem State.returned_nmiPending (s : State) : (s.returned).nmiPending = s.nmiPending := by simp [State.returned]
@[simp] theorem State.returned_irqPending (s : State) : (s.returned).irqPending = s.irqPending := by simp [State.returned]
@[simp] theorem State.returned_registry (s : State) : (s.returned).registry = s.registry := by simp [State.returned]
@[simp] theorem State.returned_debugEnabled (s : State) : (s.returned).debugEnabled = s.debugEnabled := by simp [State.returned]
@[simp] theorem State.returned_cfg (s : State) : (s.returned).cfg = s.cfg := by simp [State.returned]
@[simp] theorem State.returned_sp (s : State) : (s.returned).sp = s.sp + 1 + 1 + 1 := by simp [State.returned]
@[simp] theorem State.returned_p (s : State) : (s.returned).p = s.p.restore s.top := by simp [State.returned]
@[simp] theorem State.returned_pc (s : State) : (s.returned).pc = ofBytes s.pulled.pulled.top s.pulled.top := by simp [State.returned]

theorem State.wf_pushed {s : State} (h : s.mem.wf = true) (v : Byte) : (s.pushed v).mem.wf = true := Memory.wf_write h _ v

theorem State.wf_framed {s : State} (h : s.mem.wf = true) (ret : Word) (status : Byte) : (s.framed ret status).mem.wf = true :=
  Memory.wf_write (Memory.wf_write (Memory.wf_write h _ _) _ _) _ _

/-! ### Inversion: a next state means Memory was ready -/

theorem memoryReady_of_read16 {addr : Word} {s : State} {r : Word × State} (h : read16 addr s = .next r) : s.MemoryReady := by
  obtain ⟨v, hv, _⟩ := andThen_eq_next.1 h
  exact (memRead_next hv).1

theorem memoryReady_of_push8 {v : Byte} {s t : State} (h : push8 v s = .next t) : s.MemoryReady := by
  obtain ⟨u, hu, _⟩ := andThen_eq_next.1 h
  exact (memWrite_next hu).1

theorem memoryReady_of_pull8 {s : State} {r : Byte × State} (h : pull8 s = .next r) : s.MemoryReady :=
  (memRead_next h).1

theorem memoryReady_of_push16 {w : Word} {s t : State} (h : push16 w s = .next t) : s.MemoryReady := by
  obtain ⟨u, hu, _⟩ := andThen_eq_next.1 h
  exact memoryReady_of_push8 hu

theorem memoryReady_of_pull16 {s : State} {r : Word × State} (h : pull16 s = .next r) : s.MemoryReady := by
  obtain ⟨u, hu, _⟩ := andThen_eq_next.1 h
  exact memoryReady_of_pull8 hu

theorem memoryReady_of_serviceInterrupt {k : InterruptKind} {s t : State} (h : serviceInterrupt k s = .next t) :
    s.MemoryReady := by
  obtain ⟨u, hu, _⟩ := andThen_eq_next.1 h
  obtain ⟨w, hw, _⟩ := andThen_eq_next.1 hu
  exact memoryReady_of_push16 hw

theorem memoryReady_of_takeBreak {s t : State} (h : takeBreak s = .next t) : s.MemoryReady := by
  obtain ⟨u, hu, _⟩ := andThen_eq_next.1 h
  obtain ⟨w, hw, _⟩ := andThen_eq_next.1 hu
  exact memoryReady_of_push16 hw

theorem memoryReady_of_returnFromInterrupt {s t : State} (h : returnFromInterrupt s = .next t) : s.MemoryReady := by
  obtain ⟨u, hu, _⟩ := andThen_eq_next.1 h
  exact memoryReady_of_pull8 hu

/-! ### Everything each operation can do, when it has a next state -/

theorem read16_next {addr : Word} {s t : State} {w : Word} (h : read16 addr s = .next (w, t)) :
    s.MemoryReady ∧ w = s.word addr ∧ t.arch = s.arch :=
  ⟨memoryReady_of_read16 h, (read16_answers (memoryReady_of_read16 h) addr).eq h⟩

theorem push8_next {v : Byte} {s t : State} (h : push8 v s = .next t) : s.MemoryReady ∧ t.arch = (s.pushed v).arch :=
  ⟨memoryReady_of_push8 h, (push8_completes (memoryReady_of_push8 h) v).eq h⟩

theorem pull8_next {s t : State} {v : Byte} (h : pull8 s = .next (v, t)) : s.MemoryReady ∧ v = s.top ∧ t.arch = s.pulled.arch :=
  ⟨memoryReady_of_pull8 h, (pull8_answers (memoryReady_of_pull8 h)).eq h⟩

theorem push16_next {w : Word} {s t : State} (h : push16 w s = .next t) :
    s.MemoryReady ∧ t.arch = ((s.pushed (hiByte w)).pushed (loByte w)).arch :=
  ⟨memoryReady_of_push16 h, (push16_completes (memoryReady_of_push16 h) w).eq h⟩

theorem pull16_next {s t : State} {w : Word} (h : pull16 s = .next (w, t)) :
    s.MemoryReady ∧ w = ofBytes s.pulled.top s.top ∧ t.arch = s.pulled.pulled.arch :=
  ⟨memoryReady_of_pull16 h, (pull16_answers (memoryReady_of_pull16 h)).eq h⟩

theorem serviceInterrupt_next {k : InterruptKind} {s t : State} (h : serviceInterrupt k s = .next t) :
    s.MemoryReady ∧ t.arch = (s.entered k).arch :=
  ⟨memoryReady_of_serviceInterrupt h, (serviceInterrupt_completes (memoryReady_of_serviceInterrupt h) k).eq h⟩

theorem takeBreak_next {s t : State} (h : takeBreak s = .next t) : s.MemoryReady ∧ t.arch = s.broken.arch :=
  ⟨memoryReady_of_takeBreak h, (takeBreak_completes (memoryReady_of_takeBreak h)).eq h⟩

theorem returnFromInterrupt_next {s t : State} (h : returnFromInterrupt s = .next t) :
    s.MemoryReady ∧ t.arch = s.returned.arch :=
  ⟨memoryReady_of_returnFromInterrupt h, (returnFromInterrupt_completes (memoryReady_of_returnFromInterrupt h)).eq h⟩

/-! ### Bytes, halves and stack slots -/

theorem hiByte_toNat (w : Word) : (hiByte w).toNat = w.toNat / 256 := by
  have := w.isLt
  simp only [hiByte, BitVec.extractLsb'_toNat, Nat.shiftRight_eq_div_pow]
  omega

theorem loByte_toNat (w : Word) : (loByte w).toNat = w.toNat % 256 := by
  simp [loByte]

theorem ofBytes_toNat (high low : Byte) : (ofBytes high low).toNat = 256 * high.toNat + low.toNat := by
  have := low.isLt
  simp only [ofBytes, BitVec.toNat_append]
  rw [← Nat.shiftLeft_add_eq_or_of_lt (by omega), Nat.shiftLeft_eq]
  omega

@[simp] theorem hiByte_ofBytes (high low : Byte) : hiByte (ofBytes high low) = high := by
  have := low.isLt
  apply BitVec.eq_of_toNat_eq
  rw [hiByte_toNat, ofBytes_toNat]
  omega

@[simp] theorem loByte_ofBytes (high low : Byte) : loByte (ofBytes high low) = low := by
  have := low.isLt
  apply BitVec.eq_of_toNat_eq
  rw [loByte_toNat, ofBytes_toNat]
  omega

@[simp] theorem ofBytes_hiByte_loByte (w : Word) : ofBytes (hiByte w) (loByte w) = w := by
  apply BitVec.eq_of_toNat_eq
  rw [ofBytes_toNat, hiByte_toNat, loByte_toNat]
  omega

theorem stackAddress_toNat (sp : Byte) : (stackAddress sp).toNat = 256 + sp.toNat := by
  have h : stackAddress sp = ofBytes 0x01 sp := by
    revert sp
    decide +kernel
  rw [h, ofBytes_toNat]
  rfl

/-- Different values of S name different slots. -/
theorem stackAddress_inj {sp sp' : Byte} : stackAddress sp = stackAddress sp' ↔ sp = sp' := by
  rw [← BitVec.toNat_inj, ← BitVec.toNat_inj, stackAddress_toNat, stackAddress_toNat]
  omega

end Sys2Proof.Machine
end

