-- ==== Sys2Proof/Laws/Operands.lean ====
section
/-! SUPPORT. What resolving, reading, storing to and modifying an operand do when Memory is ready. -/

namespace Sys2Proof.Machine

theorem effectiveAddress_answers {s : State} (h : s.MemoryReady) (m : MemOperand) :
    AnswersAs (effectiveAddress m s) (m.address s, m.crosses s) s := by
  cases m with
  | indirectX z => exact (readPointer_answers h _).bind fun t ht => AnswersAs.intro ht
  | indirectY z =>
    refine (readPointer_answers h _).bind fun t ht => ?_
    show AnswersAs (.next (indexed (pointerAt z s) t.y, t)) _ s
    rw [State.y_of_arch ht]
    exact AnswersAs.intro ht
  | _ => exact AnswersAs.intro rfl

theorem operandValue_answers {s : State} (h : s.MemoryReady) (o : ReadOperand) :
    AnswersAs (operandValue o s) (o.value s, o.crosses s) s := by
  cases o with
  | immediate v => exact AnswersAs.intro rfl
  | mem m =>
    refine (effectiveAddress_answers h m).bind fun t ht => ?_
    refine (memRead_answers (State.memoryReady_of_arch ht h) _).bind fun u hu => ?_
    rw [State.mem_of_arch ht]
    exact AnswersAs.intro (hu.trans ht)

theorem storeTo_completes {s : State} (h : s.MemoryReady) (m : MemOperand) (v : Byte) :
    CompletesAs (storeTo m v s) (s.setMem (s.mem.write (m.address s) v)) := by
  refine (effectiveAddress_answers h m).andThen fun t ht => ?_
  refine (memWrite_completes (State.memoryReady_of_arch ht h) _ v).andThen fun u hu => complete_completes _ ?_
  rw [hu, State.setMem_arch, ht, State.mem_of_arch ht, ← State.setMem_arch]

theorem modify_completes {s : State} (h : s.MemoryReady) (m : MemOperand) (f : Byte → Status → Byte × Status) :
    CompletesAs (modify m f s)
      ((s.setMem (s.mem.write (m.address s) (f (s.mem.read (m.address s)) s.p).1)).setP
        (f (s.mem.read (m.address s)) s.p).2) := by
  refine (effectiveAddress_answers h m).andThen fun t ht => ?_
  refine (memRead_answers (State.memoryReady_of_arch ht h) _).andThen fun u hu => ?_
  have hus := hu.trans ht
  refine (memWrite_completes (State.memoryReady_of_arch hus h) _ _).andThen fun w hw => complete_completes _ ?_
  rw [State.setP_arch, hw, State.setMem_arch, hus, State.mem_of_arch ht, State.mem_of_arch hus, State.p_of_arch hus]
  rfl

/-! ### Inversion: a next state means Memory was ready -/

theorem memoryReady_of_read {m : MemOperand} {s : State} {r : (Byte × Bool) × State}
    (h : operandValue (.mem m) s = .next r) : s.MemoryReady := by
  obtain ⟨⟨⟨a, c⟩, t⟩, ht, h1⟩ := andThen_eq_next.1 h
  obtain ⟨⟨v, u⟩, hu, _⟩ := andThen_eq_next.1 h1
  have hr := (memRead_next hu).1
  cases m with
  | indirectX z =>
    obtain ⟨_, hp, _⟩ := andThen_eq_next.1 ht
    obtain ⟨_, hq, _⟩ := andThen_eq_next.1 hp
    exact (memRead_next hq).1
  | indirectY z =>
    obtain ⟨_, hp, _⟩ := andThen_eq_next.1 ht
    obtain ⟨_, hq, _⟩ := andThen_eq_next.1 hp
    exact (memRead_next hq).1
  | _ =>
    cases ht
    exact hr

theorem memoryReady_of_effectiveAddress {m : MemOperand} {s t : State} {a : Word} {c : Bool}
    (h : effectiveAddress m s = .next ((a, c), t)) (ht : t.MemoryReady) : s.MemoryReady := by
  cases m with
  | indirectX z =>
    obtain ⟨_, hp, _⟩ := andThen_eq_next.1 h
    obtain ⟨_, hq, _⟩ := andThen_eq_next.1 hp
    exact (memRead_next hq).1
  | indirectY z =>
    obtain ⟨_, hp, _⟩ := andThen_eq_next.1 h
    obtain ⟨_, hq, _⟩ := andThen_eq_next.1 hp
    exact (memRead_next hq).1
  | _ =>
    cases h
    exact ht

theorem memoryReady_of_storeTo {m : MemOperand} {v : Byte} {s t : State} (h : storeTo m v s = .next t) : s.MemoryReady := by
  obtain ⟨⟨⟨a, c⟩, u⟩, hu, h1⟩ := andThen_eq_next.1 h
  obtain ⟨w, hw, _⟩ := andThen_eq_next.1 h1
  exact memoryReady_of_effectiveAddress hu (memWrite_next hw).1

theorem memoryReady_of_modify {m : MemOperand} {f : Byte → Status → Byte × Status} {s t : State}
    (h : modify m f s = .next t) : s.MemoryReady := by
  obtain ⟨⟨⟨a, c⟩, u⟩, hu, h1⟩ := andThen_eq_next.1 h
  obtain ⟨w, hw, _⟩ := andThen_eq_next.1 h1
  exact memoryReady_of_effectiveAddress hu (memRead_next hw).1

/-! ### Everything each operation can do, when it has a next state -/

theorem operandValue_next {o : ReadOperand} {s t : State} {v : Byte} {c : Bool} (h : operandValue o s = .next ((v, c), t)) :
    v = o.value s ∧ c = o.crosses s ∧ t.arch = s.arch := by
  cases o with
  | immediate b =>
    cases h
    exact ⟨rfl, rfl, rfl⟩
  | mem m =>
    obtain ⟨he, ha⟩ := (operandValue_answers (memoryReady_of_read h) (.mem m)).eq h
    cases he
    exact ⟨rfl, rfl, ha⟩

theorem storeTo_next {m : MemOperand} {v : Byte} {s t : State} (h : storeTo m v s = .next t) :
    s.MemoryReady ∧ t.arch = (s.setMem (s.mem.write (m.address s) v)).arch :=
  ⟨memoryReady_of_storeTo h, (storeTo_completes (memoryReady_of_storeTo h) m v).eq h⟩

theorem modify_next {m : MemOperand} {f : Byte → Status → Byte × Status} {s t : State} (h : modify m f s = .next t) :
    s.MemoryReady ∧ t.arch = ((s.setMem (s.mem.write (m.address s) (f (s.mem.read (m.address s)) s.p).1)).setP
      (f (s.mem.read (m.address s)) s.p).2).arch :=
  ⟨memoryReady_of_modify h, (modify_completes (memoryReady_of_modify h) m f).eq h⟩

end Sys2Proof.Machine
end

