-- ==== Sys2Proof/Laws/Families.lean ====
section
/-! SUPPORT. What the shared meaning of each family does when Memory is ready: it completes, as the state named. -/

namespace Sys2Proof.Machine

theorem State.setReg_setZN_of_arch {s t : State} (h : t.arch = s.arch) (r : Register) (v : Byte) :
    ((t.setReg r v).setZN v).arch = ((s.setReg r v).setZN v).arch := by
  rw [State.setZN_arch, State.setReg_arch, h, ← State.setReg_arch, ← State.setZN_arch]

theorem State.reg_of_arch {s t : State} (h : t.arch = s.arch) (r : Register) : t.reg r = s.reg r := by
  cases r with
  | a => exact State.a_of_arch h
  | x => exact State.x_of_arch h
  | y => exact State.y_of_arch h
  | s => exact State.sp_of_arch h

theorem load_completes {s : State} (h : s.MemoryReady) (r : Register) (o : ReadOperand) :
    CompletesAs (load r o s) ((s.setReg r (o.value s)).setZN (o.value s)) :=
  (operandValue_answers h o).andThen fun _ ht => complete_completes _ (State.setReg_setZN_of_arch ht r _)

theorem store_completes {s : State} (h : s.MemoryReady) (r : Register) (m : MemOperand) :
    CompletesAs (store r m s) (s.setMem (s.mem.write (m.address s) (s.reg r))) :=
  storeTo_completes h m _

theorem addToA_of_arch {s t : State} (h : t.arch = s.arch) (m : Byte) : (t.addToA m).arch = (s.addToA m).arch := by
  unfold State.addToA
  rw [State.p_of_arch h, State.a_of_arch h]
  split <;> simp only [State.setP_arch, State.setA_arch, h]

theorem subFromA_of_arch {s t : State} (h : t.arch = s.arch) (m : Byte) : (t.subFromA m).arch = (s.subFromA m).arch := by
  unfold State.subFromA
  rw [State.p_of_arch h, State.a_of_arch h]
  split <;> simp only [State.setP_arch, State.setA_arch, h]

theorem addWithCarry_completes {s : State} (h : s.MemoryReady) (o : ReadOperand) :
    CompletesAs (addWithCarry o s) (s.addToA (o.value s)) :=
  (operandValue_answers h o).andThen fun _ ht => complete_completes _ (addToA_of_arch ht _)

theorem subtractWithCarry_completes {s : State} (h : s.MemoryReady) (o : ReadOperand) :
    CompletesAs (subtractWithCarry o s) (s.subFromA (o.value s)) :=
  (operandValue_answers h o).andThen fun _ ht => complete_completes _ (subFromA_of_arch ht _)

theorem adjustMemory_completes {s : State} (h : s.MemoryReady) (delta : Byte) (m : MemOperand) :
    CompletesAs (adjustMemory delta m s)
      ((s.setMem (s.mem.write (m.address s) (s.mem.read (m.address s) + delta))).setP
        (s.p.setZN (s.mem.read (m.address s) + delta))) :=
  modify_completes h m _

theorem logical_completes {s : State} (h : s.MemoryReady) (f : Byte → Byte → Byte) (o : ReadOperand) :
    CompletesAs (logical f o s) ((s.setA (f s.a (o.value s))).setZN (f s.a (o.value s))) := by
  refine (operandValue_answers h o).andThen fun t ht => complete_completes _ ?_
  rw [State.a_of_arch ht]
  exact State.setReg_setZN_of_arch ht .a _

theorem bitTest_completes {s : State} (h : s.MemoryReady) (m : MemOperand) :
    CompletesAs (bitTest (.mem m) s)
      (s.setP ((s.p.bitZ s.a (s.mem.read (m.address s))).bitNV (s.mem.read (m.address s)))) := by
  refine (operandValue_answers h (.mem m)).andThen fun t ht => complete_completes _ ?_
  rw [State.setP_arch, State.setP_arch, ht, State.a_of_arch ht, State.p_of_arch ht]
  rfl

theorem shiftMemory_completes {s : State} (h : s.MemoryReady) (f : Byte → Bool → Byte × Bool) (m : MemOperand) :
    CompletesAs (shiftMemory f m s)
      ((s.setMem (s.mem.write (m.address s) (f (s.mem.read (m.address s)) s.p.c).1)).setP
        (s.p.shifted (f (s.mem.read (m.address s)) s.p.c).1 (f (s.mem.read (m.address s)) s.p.c).2)) :=
  modify_completes h m _

theorem compareWith_completes {s : State} (h : s.MemoryReady) (r : Register) (o : ReadOperand) :
    CompletesAs (compareWith r o s) (s.setP (s.p.compare (s.reg r) (o.value s))) := by
  refine (operandValue_answers h o).andThen fun t ht => complete_completes _ ?_
  rw [State.setP_arch, State.setP_arch, ht, State.p_of_arch ht, State.reg_of_arch ht]

/-! ### Everything each shared meaning can do, when it has a next state -/

theorem load_next {r : Register} {o : ReadOperand} {s t : State} (h : load r o s = .next t) :
    t.arch = ((s.setReg r (o.value s)).setZN (o.value s)).arch := by
  obtain ⟨⟨⟨v, c⟩, u⟩, hu, h1⟩ := andThen_eq_next.1 h
  obtain ⟨rfl, -, ha⟩ := operandValue_next hu
  rw [complete_next h1, State.setOutcome_arch, State.setReg_setZN_of_arch ha]

theorem store_next {r : Register} {m : MemOperand} {s t : State} (h : store r m s = .next t) :
    t.arch = (s.setMem (s.mem.write (m.address s) (s.reg r))).arch :=
  (storeTo_next h).2

theorem addWithCarry_next {o : ReadOperand} {s t : State} (h : addWithCarry o s = .next t) :
    t.arch = (s.addToA (o.value s)).arch := by
  obtain ⟨⟨⟨v, c⟩, u⟩, hu, h1⟩ := andThen_eq_next.1 h
  obtain ⟨rfl, -, ha⟩ := operandValue_next hu
  rw [complete_next h1, State.setOutcome_arch, addToA_of_arch ha]

theorem subtractWithCarry_next {o : ReadOperand} {s t : State} (h : subtractWithCarry o s = .next t) :
    t.arch = (s.subFromA (o.value s)).arch := by
  obtain ⟨⟨⟨v, c⟩, u⟩, hu, h1⟩ := andThen_eq_next.1 h
  obtain ⟨rfl, -, ha⟩ := operandValue_next hu
  rw [complete_next h1, State.setOutcome_arch, subFromA_of_arch ha]

theorem adjustMemory_next {delta : Byte} {m : MemOperand} {s t : State} (h : adjustMemory delta m s = .next t) :
    t.arch = ((s.setMem (s.mem.write (m.address s) (s.mem.read (m.address s) + delta))).setP
      (s.p.setZN (s.mem.read (m.address s) + delta))).arch :=
  (modify_next h).2

theorem adjustRegister_next {delta : Byte} {r : Register} {s t : State} (h : adjustRegister delta r s = .next t) :
    t.arch = ((s.setReg r (s.reg r + delta)).setZN (s.reg r + delta)).arch := by
  rw [complete_next h, State.setOutcome_arch]

theorem logical_next {f : Byte → Byte → Byte} {o : ReadOperand} {s t : State} (h : logical f o s = .next t) :
    t.arch = ((s.setA (f s.a (o.value s))).setZN (f s.a (o.value s))).arch := by
  obtain ⟨⟨⟨v, c⟩, u⟩, hu, h1⟩ := andThen_eq_next.1 h
  obtain ⟨rfl, -, ha⟩ := operandValue_next hu
  rw [complete_next h1, State.setOutcome_arch, State.a_of_arch ha]
  exact State.setReg_setZN_of_arch ha .a _

theorem bitTest_next {m : MemOperand} {s t : State} (h : bitTest (.mem m) s = .next t) :
    t.arch = (s.setP ((s.p.bitZ s.a (s.mem.read (m.address s))).bitNV (s.mem.read (m.address s)))).arch := by
  obtain ⟨⟨⟨v, c⟩, u⟩, hu, h1⟩ := andThen_eq_next.1 h
  exact (bitTest_completes (memoryReady_of_read hu) m).eq h

theorem shiftA_next {f : Byte → Bool → Byte × Bool} {s t : State} (h : shiftA f s = .next t) :
    t.arch = ((s.setA (f s.a s.p.c).1).setP (s.p.shifted (f s.a s.p.c).1 (f s.a s.p.c).2)).arch := by
  rw [complete_next h, State.setOutcome_arch]

theorem shiftMemory_next {f : Byte → Bool → Byte × Bool} {m : MemOperand} {s t : State} (h : shiftMemory f m s = .next t) :
    t.arch = ((s.setMem (s.mem.write (m.address s) (f (s.mem.read (m.address s)) s.p.c).1)).setP
      (s.p.shifted (f (s.mem.read (m.address s)) s.p.c).1 (f (s.mem.read (m.address s)) s.p.c).2)).arch :=
  (modify_next h).2

theorem compareWith_next {r : Register} {o : ReadOperand} {s t : State} (h : compareWith r o s = .next t) :
    t.arch = (s.setP (s.p.compare (s.reg r) (o.value s))).arch := by
  obtain ⟨⟨⟨v, c⟩, u⟩, hu, h1⟩ := andThen_eq_next.1 h
  obtain ⟨rfl, -, ha⟩ := operandValue_next hu
  rw [complete_next h1, State.setOutcome_arch, State.setP_arch, State.setP_arch, ha, State.p_of_arch ha, State.reg_of_arch ha]

theorem branch_next {flag expected : Bool} {off : Byte} {s t : State} (h : branch flag expected off s = .next t) :
    t.arch = (if flag = expected then s.setPc (relativeTarget off s) else s).arch := by
  unfold branch at h
  split at h
  · next hc => rw [complete_next h, State.setOutcome_arch, if_pos hc]
  · next hc => rw [complete_next h, State.setOutcome_arch, if_neg hc]

theorem transfer_next {source target : Register} {s t : State} (h : transfer source target s = .next t) :
    t.arch = ((s.setReg target (s.reg source)).setZN (s.reg source)).arch := by
  rw [complete_next h, State.setOutcome_arch]

end Sys2Proof.Machine
end

