-- ==== Sys2Proof/Laws/PerInstr.lean ====
section
/-! SUPPORT. Facts about every instruction, one lemma for each constructor. TableRow: the Opcode Table's row at the instruction's opcode (the byte from
R99) has the instruction's operation and category (R98). -/

namespace Sys2Proof.Laws

/-- The row of R98 at the opcode byte of R99 is this instruction's. -/
def TableRow.Statement (i : Instr) : Prop :=
  (findRow (opcodeRow (i.opcode.toNat / 16)) i.opcode).map (fun e => (e.mnemonic, e.mode)) = some (i.mnemonic, i.operand.mode)

theorem tableRow_of {i : Instr} (op : Byte) (m : Mnemonic) (md : Mode) (ho : i.opcode = op) (hm : i.mnemonic = m)
    (hd : i.operand.mode = md)
    (h : (findRow (opcodeRow (op.toNat / 16)) op).map (fun e => (e.mnemonic, e.mode)) = some (m, md)) :
    TableRow.Statement i := by
  subst ho hm hd
  exact h

theorem TableRow.ldaImm (v : Byte) : TableRow.Statement (.ldaImm v) :=
  tableRow_of 0xA9 .lda .immediate rfl rfl rfl rfl
theorem TableRow.ldaZp (z : Byte) : TableRow.Statement (.ldaZp z) :=
  tableRow_of 0xA5 .lda .zeroPage rfl rfl rfl rfl
theorem TableRow.ldaZpx (z : Byte) : TableRow.Statement (.ldaZpx z) :=
  tableRow_of 0xB5 .lda .zeroPageX rfl rfl rfl rfl
theorem TableRow.ldaAbs (w : Word) : TableRow.Statement (.ldaAbs w) :=
  tableRow_of 0xAD .lda .absolute rfl rfl rfl rfl
theorem TableRow.ldaAbx (w : Word) : TableRow.Statement (.ldaAbx w) :=
  tableRow_of 0xBD .lda .absoluteX rfl rfl rfl rfl
theorem TableRow.ldaAby (w : Word) : TableRow.Statement (.ldaAby w) :=
  tableRow_of 0xB9 .lda .absoluteY rfl rfl rfl rfl
theorem TableRow.ldaIzx (z : Byte) : TableRow.Statement (.ldaIzx z) :=
  tableRow_of 0xA1 .lda .indirectX rfl rfl rfl rfl
theorem TableRow.ldaIzy (z : Byte) : TableRow.Statement (.ldaIzy z) :=
  tableRow_of 0xB1 .lda .indirectY rfl rfl rfl rfl
theorem TableRow.ldxImm (v : Byte) : TableRow.Statement (.ldxImm v) :=
  tableRow_of 0xA2 .ldx .immediate rfl rfl rfl rfl
theorem TableRow.ldxZp (z : Byte) : TableRow.Statement (.ldxZp z) :=
  tableRow_of 0xA6 .ldx .zeroPage rfl rfl rfl rfl
theorem TableRow.ldxZpy (z : Byte) : TableRow.Statement (.ldxZpy z) :=
  tableRow_of 0xB6 .ldx .zeroPageY rfl rfl rfl rfl
theorem TableRow.ldxAbs (w : Word) : TableRow.Statement (.ldxAbs w) :=
  tableRow_of 0xAE .ldx .absolute rfl rfl rfl rfl
theorem TableRow.ldxAby (w : Word) : TableRow.Statement (.ldxAby w) :=
  tableRow_of 0xBE .ldx .absoluteY rfl rfl rfl rfl
theorem TableRow.ldyImm (v : Byte) : TableRow.Statement (.ldyImm v) :=
  tableRow_of 0xA0 .ldy .immediate rfl rfl rfl rfl
theorem TableRow.ldyZp (z : Byte) : TableRow.Statement (.ldyZp z) :=
  tableRow_of 0xA4 .ldy .zeroPage rfl rfl rfl rfl
theorem TableRow.ldyZpx (z : Byte) : TableRow.Statement (.ldyZpx z) :=
  tableRow_of 0xB4 .ldy .zeroPageX rfl rfl rfl rfl
theorem TableRow.ldyAbs (w : Word) : TableRow.Statement (.ldyAbs w) :=
  tableRow_of 0xAC .ldy .absolute rfl rfl rfl rfl
theorem TableRow.ldyAbx (w : Word) : TableRow.Statement (.ldyAbx w) :=
  tableRow_of 0xBC .ldy .absoluteX rfl rfl rfl rfl
theorem TableRow.staZp (z : Byte) : TableRow.Statement (.staZp z) :=
  tableRow_of 0x85 .sta .zeroPage rfl rfl rfl rfl
theorem TableRow.staZpx (z : Byte) : TableRow.Statement (.staZpx z) :=
  tableRow_of 0x95 .sta .zeroPageX rfl rfl rfl rfl
theorem TableRow.staAbs (w : Word) : TableRow.Statement (.staAbs w) :=
  tableRow_of 0x8D .sta .absolute rfl rfl rfl rfl
theorem TableRow.staAbx (w : Word) : TableRow.Statement (.staAbx w) :=
  tableRow_of 0x9D .sta .absoluteX rfl rfl rfl rfl
theorem TableRow.staAby (w : Word) : TableRow.Statement (.staAby w) :=
  tableRow_of 0x99 .sta .absoluteY rfl rfl rfl rfl
theorem TableRow.staIzx (z : Byte) : TableRow.Statement (.staIzx z) :=
  tableRow_of 0x81 .sta .indirectX rfl rfl rfl rfl
theorem TableRow.staIzy (z : Byte) : TableRow.Statement (.staIzy z) :=
  tableRow_of 0x91 .sta .indirectY rfl rfl rfl rfl
theorem TableRow.stxZp (z : Byte) : TableRow.Statement (.stxZp z) :=
  tableRow_of 0x86 .stx .zeroPage rfl rfl rfl rfl
theorem TableRow.stxZpy (z : Byte) : TableRow.Statement (.stxZpy z) :=
  tableRow_of 0x96 .stx .zeroPageY rfl rfl rfl rfl
theorem TableRow.stxAbs (w : Word) : TableRow.Statement (.stxAbs w) :=
  tableRow_of 0x8E .stx .absolute rfl rfl rfl rfl
theorem TableRow.styZp (z : Byte) : TableRow.Statement (.styZp z) :=
  tableRow_of 0x84 .sty .zeroPage rfl rfl rfl rfl
theorem TableRow.styZpx (z : Byte) : TableRow.Statement (.styZpx z) :=
  tableRow_of 0x94 .sty .zeroPageX rfl rfl rfl rfl
theorem TableRow.styAbs (w : Word) : TableRow.Statement (.styAbs w) :=
  tableRow_of 0x8C .sty .absolute rfl rfl rfl rfl
theorem TableRow.adcImm (v : Byte) : TableRow.Statement (.adcImm v) :=
  tableRow_of 0x69 .adc .immediate rfl rfl rfl rfl
theorem TableRow.adcZp (z : Byte) : TableRow.Statement (.adcZp z) :=
  tableRow_of 0x65 .adc .zeroPage rfl rfl rfl rfl
theorem TableRow.adcZpx (z : Byte) : TableRow.Statement (.adcZpx z) :=
  tableRow_of 0x75 .adc .zeroPageX rfl rfl rfl rfl
theorem TableRow.adcAbs (w : Word) : TableRow.Statement (.adcAbs w) :=
  tableRow_of 0x6D .adc .absolute rfl rfl rfl rfl
theorem TableRow.adcAbx (w : Word) : TableRow.Statement (.adcAbx w) :=
  tableRow_of 0x7D .adc .absoluteX rfl rfl rfl rfl
theorem TableRow.adcAby (w : Word) : TableRow.Statement (.adcAby w) :=
  tableRow_of 0x79 .adc .absoluteY rfl rfl rfl rfl
theorem TableRow.adcIzx (z : Byte) : TableRow.Statement (.adcIzx z) :=
  tableRow_of 0x61 .adc .indirectX rfl rfl rfl rfl
theorem TableRow.adcIzy (z : Byte) : TableRow.Statement (.adcIzy z) :=
  tableRow_of 0x71 .adc .indirectY rfl rfl rfl rfl
theorem TableRow.sbcImm (v : Byte) : TableRow.Statement (.sbcImm v) :=
  tableRow_of 0xE9 .sbc .immediate rfl rfl rfl rfl
theorem TableRow.sbcZp (z : Byte) : TableRow.Statement (.sbcZp z) :=
  tableRow_of 0xE5 .sbc .zeroPage rfl rfl rfl rfl
theorem TableRow.sbcZpx (z : Byte) : TableRow.Statement (.sbcZpx z) :=
  tableRow_of 0xF5 .sbc .zeroPageX rfl rfl rfl rfl
theorem TableRow.sbcAbs (w : Word) : TableRow.Statement (.sbcAbs w) :=
  tableRow_of 0xED .sbc .absolute rfl rfl rfl rfl
theorem TableRow.sbcAbx (w : Word) : TableRow.Statement (.sbcAbx w) :=
  tableRow_of 0xFD .sbc .absoluteX rfl rfl rfl rfl
theorem TableRow.sbcAby (w : Word) : TableRow.Statement (.sbcAby w) :=
  tableRow_of 0xF9 .sbc .absoluteY rfl rfl rfl rfl
theorem TableRow.sbcIzx (z : Byte) : TableRow.Statement (.sbcIzx z) :=
  tableRow_of 0xE1 .sbc .indirectX rfl rfl rfl rfl
theorem TableRow.sbcIzy (z : Byte) : TableRow.Statement (.sbcIzy z) :=
  tableRow_of 0xF1 .sbc .indirectY rfl rfl rfl rfl
theorem TableRow.incZp (z : Byte) : TableRow.Statement (.incZp z) :=
  tableRow_of 0xE6 .inc .zeroPage rfl rfl rfl rfl
theorem TableRow.incZpx (z : Byte) : TableRow.Statement (.incZpx z) :=
  tableRow_of 0xF6 .inc .zeroPageX rfl rfl rfl rfl
theorem TableRow.incAbs (w : Word) : TableRow.Statement (.incAbs w) :=
  tableRow_of 0xEE .inc .absolute rfl rfl rfl rfl
theorem TableRow.incAbx (w : Word) : TableRow.Statement (.incAbx w) :=
  tableRow_of 0xFE .inc .absoluteX rfl rfl rfl rfl
theorem TableRow.decZp (z : Byte) : TableRow.Statement (.decZp z) :=
  tableRow_of 0xC6 .dec .zeroPage rfl rfl rfl rfl
theorem TableRow.decZpx (z : Byte) : TableRow.Statement (.decZpx z) :=
  tableRow_of 0xD6 .dec .zeroPageX rfl rfl rfl rfl
theorem TableRow.decAbs (w : Word) : TableRow.Statement (.decAbs w) :=
  tableRow_of 0xCE .dec .absolute rfl rfl rfl rfl
theorem TableRow.decAbx (w : Word) : TableRow.Statement (.decAbx w) :=
  tableRow_of 0xDE .dec .absoluteX rfl rfl rfl rfl
theorem TableRow.inx : TableRow.Statement .inx :=
  tableRow_of 0xE8 .inx .implied rfl rfl rfl rfl
theorem TableRow.iny : TableRow.Statement .iny :=
  tableRow_of 0xC8 .iny .implied rfl rfl rfl rfl
theorem TableRow.dex : TableRow.Statement .dex :=
  tableRow_of 0xCA .dex .implied rfl rfl rfl rfl
theorem TableRow.dey : TableRow.Statement .dey :=
  tableRow_of 0x88 .dey .implied rfl rfl rfl rfl
theorem TableRow.andImm (v : Byte) : TableRow.Statement (.andImm v) :=
  tableRow_of 0x29 .and .immediate rfl rfl rfl rfl
theorem TableRow.andZp (z : Byte) : TableRow.Statement (.andZp z) :=
  tableRow_of 0x25 .and .zeroPage rfl rfl rfl rfl
theorem TableRow.andZpx (z : Byte) : TableRow.Statement (.andZpx z) :=
  tableRow_of 0x35 .and .zeroPageX rfl rfl rfl rfl
theorem TableRow.andAbs (w : Word) : TableRow.Statement (.andAbs w) :=
  tableRow_of 0x2D .and .absolute rfl rfl rfl rfl
theorem TableRow.andAbx (w : Word) : TableRow.Statement (.andAbx w) :=
  tableRow_of 0x3D .and .absoluteX rfl rfl rfl rfl
theorem TableRow.andAby (w : Word) : TableRow.Statement (.andAby w) :=
  tableRow_of 0x39 .and .absoluteY rfl rfl rfl rfl
theorem TableRow.andIzx (z : Byte) : TableRow.Statement (.andIzx z) :=
  tableRow_of 0x21 .and .indirectX rfl rfl rfl rfl
theorem TableRow.andIzy (z : Byte) : TableRow.Statement (.andIzy z) :=
  tableRow_of 0x31 .and .indirectY rfl rfl rfl rfl
theorem TableRow.oraImm (v : Byte) : TableRow.Statement (.oraImm v) :=
  tableRow_of 0x09 .ora .immediate rfl rfl rfl rfl
theorem TableRow.oraZp (z : Byte) : TableRow.Statement (.oraZp z) :=
  tableRow_of 0x05 .ora .zeroPage rfl rfl rfl rfl
theorem TableRow.oraZpx (z : Byte) : TableRow.Statement (.oraZpx z) :=
  tableRow_of 0x15 .ora .zeroPageX rfl rfl rfl rfl
theorem TableRow.oraAbs (w : Word) : TableRow.Statement (.oraAbs w) :=
  tableRow_of 0x0D .ora .absolute rfl rfl rfl rfl
theorem TableRow.oraAbx (w : Word) : TableRow.Statement (.oraAbx w) :=
  tableRow_of 0x1D .ora .absoluteX rfl rfl rfl rfl
theorem TableRow.oraAby (w : Word) : TableRow.Statement (.oraAby w) :=
  tableRow_of 0x19 .ora .absoluteY rfl rfl rfl rfl
theorem TableRow.oraIzx (z : Byte) : TableRow.Statement (.oraIzx z) :=
  tableRow_of 0x01 .ora .indirectX rfl rfl rfl rfl
theorem TableRow.oraIzy (z : Byte) : TableRow.Statement (.oraIzy z) :=
  tableRow_of 0x11 .ora .indirectY rfl rfl rfl rfl
theorem TableRow.eorImm (v : Byte) : TableRow.Statement (.eorImm v) :=
  tableRow_of 0x49 .eor .immediate rfl rfl rfl rfl
theorem TableRow.eorZp (z : Byte) : TableRow.Statement (.eorZp z) :=
  tableRow_of 0x45 .eor .zeroPage rfl rfl rfl rfl
theorem TableRow.eorZpx (z : Byte) : TableRow.Statement (.eorZpx z) :=
  tableRow_of 0x55 .eor .zeroPageX rfl rfl rfl rfl
theorem TableRow.eorAbs (w : Word) : TableRow.Statement (.eorAbs w) :=
  tableRow_of 0x4D .eor .absolute rfl rfl rfl rfl
theorem TableRow.eorAbx (w : Word) : TableRow.Statement (.eorAbx w) :=
  tableRow_of 0x5D .eor .absoluteX rfl rfl rfl rfl
theorem TableRow.eorAby (w : Word) : TableRow.Statement (.eorAby w) :=
  tableRow_of 0x59 .eor .absoluteY rfl rfl rfl rfl
theorem TableRow.eorIzx (z : Byte) : TableRow.Statement (.eorIzx z) :=
  tableRow_of 0x41 .eor .indirectX rfl rfl rfl rfl
theorem TableRow.eorIzy (z : Byte) : TableRow.Statement (.eorIzy z) :=
  tableRow_of 0x51 .eor .indirectY rfl rfl rfl rfl
theorem TableRow.bitZp (z : Byte) : TableRow.Statement (.bitZp z) :=
  tableRow_of 0x24 .bit .zeroPage rfl rfl rfl rfl
theorem TableRow.bitAbs (w : Word) : TableRow.Statement (.bitAbs w) :=
  tableRow_of 0x2C .bit .absolute rfl rfl rfl rfl
theorem TableRow.aslAcc : TableRow.Statement .aslAcc :=
  tableRow_of 0x0A .asl .accumulator rfl rfl rfl rfl
theorem TableRow.aslZp (z : Byte) : TableRow.Statement (.aslZp z) :=
  tableRow_of 0x06 .asl .zeroPage rfl rfl rfl rfl
theorem TableRow.aslZpx (z : Byte) : TableRow.Statement (.aslZpx z) :=
  tableRow_of 0x16 .asl .zeroPageX rfl rfl rfl rfl
theorem TableRow.aslAbs (w : Word) : TableRow.Statement (.aslAbs w) :=
  tableRow_of 0x0E .asl .absolute rfl rfl rfl rfl
theorem TableRow.aslAbx (w : Word) : TableRow.Statement (.aslAbx w) :=
  tableRow_of 0x1E .asl .absoluteX rfl rfl rfl rfl
theorem TableRow.lsrAcc : TableRow.Statement .lsrAcc :=
  tableRow_of 0x4A .lsr .accumulator rfl rfl rfl rfl
theorem TableRow.lsrZp (z : Byte) : TableRow.Statement (.lsrZp z) :=
  tableRow_of 0x46 .lsr .zeroPage rfl rfl rfl rfl
theorem TableRow.lsrZpx (z : Byte) : TableRow.Statement (.lsrZpx z) :=
  tableRow_of 0x56 .lsr .zeroPageX rfl rfl rfl rfl
theorem TableRow.lsrAbs (w : Word) : TableRow.Statement (.lsrAbs w) :=
  tableRow_of 0x4E .lsr .absolute rfl rfl rfl rfl
theorem TableRow.lsrAbx (w : Word) : TableRow.Statement (.lsrAbx w) :=
  tableRow_of 0x5E .lsr .absoluteX rfl rfl rfl rfl
theorem TableRow.rolAcc : TableRow.Statement .rolAcc :=
  tableRow_of 0x2A .rol .accumulator rfl rfl rfl rfl
theorem TableRow.rolZp (z : Byte) : TableRow.Statement (.rolZp z) :=
  tableRow_of 0x26 .rol .zeroPage rfl rfl rfl rfl
theorem TableRow.rolZpx (z : Byte) : TableRow.Statement (.rolZpx z) :=
  tableRow_of 0x36 .rol .zeroPageX rfl rfl rfl rfl
theorem TableRow.rolAbs (w : Word) : TableRow.Statement (.rolAbs w) :=
  tableRow_of 0x2E .rol .absolute rfl rfl rfl rfl
theorem TableRow.rolAbx (w : Word) : TableRow.Statement (.rolAbx w) :=
  tableRow_of 0x3E .rol .absoluteX rfl rfl rfl rfl
theorem TableRow.rorAcc : TableRow.Statement .rorAcc :=
  tableRow_of 0x6A .ror .accumulator rfl rfl rfl rfl
theorem TableRow.rorZp (z : Byte) : TableRow.Statement (.rorZp z) :=
  tableRow_of 0x66 .ror .zeroPage rfl rfl rfl rfl
theorem TableRow.rorZpx (z : Byte) : TableRow.Statement (.rorZpx z) :=
  tableRow_of 0x76 .ror .zeroPageX rfl rfl rfl rfl
theorem TableRow.rorAbs (w : Word) : TableRow.Statement (.rorAbs w) :=
  tableRow_of 0x6E .ror .absolute rfl rfl rfl rfl
theorem TableRow.rorAbx (w : Word) : TableRow.Statement (.rorAbx w) :=
  tableRow_of 0x7E .ror .absoluteX rfl rfl rfl rfl
theorem TableRow.cmpImm (v : Byte) : TableRow.Statement (.cmpImm v) :=
  tableRow_of 0xC9 .cmp .immediate rfl rfl rfl rfl
theorem TableRow.cmpZp (z : Byte) : TableRow.Statement (.cmpZp z) :=
  tableRow_of 0xC5 .cmp .zeroPage rfl rfl rfl rfl
theorem TableRow.cmpZpx (z : Byte) : TableRow.Statement (.cmpZpx z) :=
  tableRow_of 0xD5 .cmp .zeroPageX rfl rfl rfl rfl
theorem TableRow.cmpAbs (w : Word) : TableRow.Statement (.cmpAbs w) :=
  tableRow_of 0xCD .cmp .absolute rfl rfl rfl rfl
theorem TableRow.cmpAbx (w : Word) : TableRow.Statement (.cmpAbx w) :=
  tableRow_of 0xDD .cmp .absoluteX rfl rfl rfl rfl
theorem TableRow.cmpAby (w : Word) : TableRow.Statement (.cmpAby w) :=
  tableRow_of 0xD9 .cmp .absoluteY rfl rfl rfl rfl
theorem TableRow.cmpIzx (z : Byte) : TableRow.Statement (.cmpIzx z) :=
  tableRow_of 0xC1 .cmp .indirectX rfl rfl rfl rfl
theorem TableRow.cmpIzy (z : Byte) : TableRow.Statement (.cmpIzy z) :=
  tableRow_of 0xD1 .cmp .indirectY rfl rfl rfl rfl
theorem TableRow.cpxImm (v : Byte) : TableRow.Statement (.cpxImm v) :=
  tableRow_of 0xE0 .cpx .immediate rfl rfl rfl rfl
theorem TableRow.cpxZp (z : Byte) : TableRow.Statement (.cpxZp z) :=
  tableRow_of 0xE4 .cpx .zeroPage rfl rfl rfl rfl
theorem TableRow.cpxAbs (w : Word) : TableRow.Statement (.cpxAbs w) :=
  tableRow_of 0xEC .cpx .absolute rfl rfl rfl rfl
theorem TableRow.cpyImm (v : Byte) : TableRow.Statement (.cpyImm v) :=
  tableRow_of 0xC0 .cpy .immediate rfl rfl rfl rfl
theorem TableRow.cpyZp (z : Byte) : TableRow.Statement (.cpyZp z) :=
  tableRow_of 0xC4 .cpy .zeroPage rfl rfl rfl rfl
theorem TableRow.cpyAbs (w : Word) : TableRow.Statement (.cpyAbs w) :=
  tableRow_of 0xCC .cpy .absolute rfl rfl rfl rfl
theorem TableRow.bcc (off : Byte) : TableRow.Statement (.bcc off) :=
  tableRow_of 0x90 .bcc .relative rfl rfl rfl rfl
theorem TableRow.bcs (off : Byte) : TableRow.Statement (.bcs off) :=
  tableRow_of 0xB0 .bcs .relative rfl rfl rfl rfl
theorem TableRow.beq (off : Byte) : TableRow.Statement (.beq off) :=
  tableRow_of 0xF0 .beq .relative rfl rfl rfl rfl
theorem TableRow.bne (off : Byte) : TableRow.Statement (.bne off) :=
  tableRow_of 0xD0 .bne .relative rfl rfl rfl rfl
theorem TableRow.bmi (off : Byte) : TableRow.Statement (.bmi off) :=
  tableRow_of 0x30 .bmi .relative rfl rfl rfl rfl
theorem TableRow.bpl (off : Byte) : TableRow.Statement (.bpl off) :=
  tableRow_of 0x10 .bpl .relative rfl rfl rfl rfl
theorem TableRow.bvc (off : Byte) : TableRow.Statement (.bvc off) :=
  tableRow_of 0x50 .bvc .relative rfl rfl rfl rfl
theorem TableRow.bvs (off : Byte) : TableRow.Statement (.bvs off) :=
  tableRow_of 0x70 .bvs .relative rfl rfl rfl rfl
theorem TableRow.jmpAbs (w : Word) : TableRow.Statement (.jmpAbs w) :=
  tableRow_of 0x4C .jmp .absolute rfl rfl rfl rfl
theorem TableRow.jmpInd (w : Word) : TableRow.Statement (.jmpInd w) :=
  tableRow_of 0x6C .jmp .indirect rfl rfl rfl rfl
theorem TableRow.jsr (w : Word) : TableRow.Statement (.jsr w) :=
  tableRow_of 0x20 .jsr .absolute rfl rfl rfl rfl
theorem TableRow.rts : TableRow.Statement .rts :=
  tableRow_of 0x60 .rts .implied rfl rfl rfl rfl
theorem TableRow.pha : TableRow.Statement .pha :=
  tableRow_of 0x48 .pha .implied rfl rfl rfl rfl
theorem TableRow.pla : TableRow.Statement .pla :=
  tableRow_of 0x68 .pla .implied rfl rfl rfl rfl
theorem TableRow.php : TableRow.Statement .php :=
  tableRow_of 0x08 .php .implied rfl rfl rfl rfl
theorem TableRow.plp : TableRow.Statement .plp :=
  tableRow_of 0x28 .plp .implied rfl rfl rfl rfl
theorem TableRow.clc : TableRow.Statement .clc :=
  tableRow_of 0x18 .clc .implied rfl rfl rfl rfl
theorem TableRow.sec : TableRow.Statement .sec :=
  tableRow_of 0x38 .sec .implied rfl rfl rfl rfl
theorem TableRow.cli : TableRow.Statement .cli :=
  tableRow_of 0x58 .cli .implied rfl rfl rfl rfl
theorem TableRow.sei : TableRow.Statement .sei :=
  tableRow_of 0x78 .sei .implied rfl rfl rfl rfl
theorem TableRow.cld : TableRow.Statement .cld :=
  tableRow_of 0xD8 .cld .implied rfl rfl rfl rfl
theorem TableRow.sed : TableRow.Statement .sed :=
  tableRow_of 0xF8 .sed .implied rfl rfl rfl rfl
theorem TableRow.clv : TableRow.Statement .clv :=
  tableRow_of 0xB8 .clv .implied rfl rfl rfl rfl
theorem TableRow.brk : TableRow.Statement .brk :=
  tableRow_of 0x00 .brk .implied rfl rfl rfl rfl
theorem TableRow.rti : TableRow.Statement .rti :=
  tableRow_of 0x40 .rti .implied rfl rfl rfl rfl
theorem TableRow.nop : TableRow.Statement .nop :=
  tableRow_of 0xEA .nop .implied rfl rfl rfl rfl
theorem TableRow.tax : TableRow.Statement .tax :=
  tableRow_of 0xAA .tax .implied rfl rfl rfl rfl
theorem TableRow.tay : TableRow.Statement .tay :=
  tableRow_of 0xA8 .tay .implied rfl rfl rfl rfl
theorem TableRow.txa : TableRow.Statement .txa :=
  tableRow_of 0x8A .txa .implied rfl rfl rfl rfl
theorem TableRow.tya : TableRow.Statement .tya :=
  tableRow_of 0x98 .tya .implied rfl rfl rfl rfl
theorem TableRow.tsx : TableRow.Statement .tsx :=
  tableRow_of 0xBA .tsx .implied rfl rfl rfl rfl
theorem TableRow.txs : TableRow.Statement .txs :=
  tableRow_of 0x9A .txs .implied rfl rfl rfl rfl

end Sys2Proof.Laws
end

