-- ==== Sys2Proof/Laws/Status.lean ====
section
/-! SUPPORT. The status byte bit by bit, and the byte formulas of the spec. -/

namespace Sys2Proof.Machine

@[simp] theorem Status.toByte_bit0 (p : Status) : p.toByte[0] = p.c := by
  rcases p with ⟨c, z, i, d, b, v, n⟩
  cases c <;> cases z <;> cases i <;> cases d <;> cases b <;> cases v <;> cases n <;> rfl

@[simp] theorem Status.toByte_bit1 (p : Status) : p.toByte[1] = p.z := by
  rcases p with ⟨c, z, i, d, b, v, n⟩
  cases c <;> cases z <;> cases i <;> cases d <;> cases b <;> cases v <;> cases n <;> rfl

@[simp] theorem Status.toByte_bit2 (p : Status) : p.toByte[2] = p.i := by
  rcases p with ⟨c, z, i, d, b, v, n⟩
  cases c <;> cases z <;> cases i <;> cases d <;> cases b <;> cases v <;> cases n <;> rfl

@[simp] theorem Status.toByte_bit3 (p : Status) : p.toByte[3] = p.d := by
  rcases p with ⟨c, z, i, d, b, v, n⟩
  cases c <;> cases z <;> cases i <;> cases d <;> cases b <;> cases v <;> cases n <;> rfl

@[simp] theorem Status.toByte_bit4 (p : Status) : p.toByte[4] = p.b := by
  rcases p with ⟨c, z, i, d, b, v, n⟩
  cases c <;> cases z <;> cases i <;> cases d <;> cases b <;> cases v <;> cases n <;> rfl

@[simp] theorem Status.toByte_bit6 (p : Status) : p.toByte[6] = p.v := by
  rcases p with ⟨c, z, i, d, b, v, n⟩
  cases c <;> cases z <;> cases i <;> cases d <;> cases b <;> cases v <;> cases n <;> rfl

@[simp] theorem Status.toByte_bit7 (p : Status) : p.toByte[7] = p.n := by
  rcases p with ⟨c, z, i, d, b, v, n⟩
  cases c <;> cases z <;> cases i <;> cases d <;> cases b <;> cases v <;> cases n <;> rfl

/-- Unpacking a packed status gives it back: bit 5 carries nothing. -/
@[simp] theorem Status.ofByte_toByte (p : Status) : Status.ofByte p.toByte = p := by
  simp [Status.ofByte]

/-- Restoring from P's own byte changes nothing. -/
@[simp] theorem Status.restore_toByte (p q : Status) : q.restore p.toByte = { p with b := q.b } := by
  simp [Status.restore]

/-- Restoring from a byte with Break and Unused forced, as PHP pushes it. -/
theorem Status.restore_or_break (p q : Status) : q.restore (p.toByte ||| 0x30) = { p with b := q.b } := by
  rcases p with ⟨c, z, i, d, b, v, n⟩
  cases c <;> cases z <;> cases i <;> cases d <;> cases b <;> cases v <;> cases n <;> rfl

end Sys2Proof.Machine
end

