-- ==== Sys2Proof/Laws/Step.lean ====
section
/-! SUPPORT. Fetching, and everything a step can do. -/

namespace Sys2Proof

/-- The instruction a form makes of the two bytes after the opcode. -/
def Form.build (f : Form) (b1 b2 : Byte) : Instr :=
  match f with
  | .op0 i => i
  | .op1 g => g b1
  | .op2 g => g (ofBytes b2 b1)

/-- How many operand bytes a form fetches. -/
def Form.size : Form → Nat
  | .op0 _ => 0
  | .op1 _ => 1
  | .op2 _ => 2

namespace Machine

/-- The state a step starts from: no outputs, Running (R110). -/
def State.started (s : State) : State := s.clearObs.setRun .running

@[simp] theorem State.started_arch (s : State) : s.started.arch = s.arch.setRun .running := rfl

theorem State.MemoryReady.started {s : State} (h : s.MemoryReady) : s.started.MemoryReady :=
  State.memoryReady_of_registry rfl h

theorem fetchByte_answers {s : State} (h : s.MemoryReady) :
    AnswersAs (fetchByte s) (s.mem.read s.pc) (s.setPc (s.pc + 1)) := by
  refine (memRead_answers h s.pc).bind fun t ht => AnswersAs.intro ?_
  rw [State.setPc_arch, ht, State.pc_of_arch ht, ← State.setPc_arch]

theorem fetchByte_next {s t : State} {b : Byte} (h : fetchByte s = .next (b, t)) :
    s.MemoryReady ∧ b = s.mem.read s.pc ∧ t.arch = (s.setPc (s.pc + 1)).arch := by
  obtain ⟨⟨v, u⟩, hu, h1⟩ := andThen_eq_next.1 h
  obtain ⟨hr, hv, ha⟩ := memRead_next hu
  cases h1
  refine ⟨hr, hv, ?_⟩
  rw [State.setPc_arch, ha, State.pc_of_arch ha, ← State.setPc_arch]

theorem fetchOperand_answers {s : State} (h : s.MemoryReady) (f : Form) :
    AnswersAs (fetchOperand f s) (f.build (s.mem.read s.pc) (s.mem.read (s.pc + 1)))
      (s.setPc (s.pc + BitVec.ofNat 16 f.size)) := by
  cases f with
  | op0 i => exact AnswersAs.intro (by simp [Form.size])
  | op1 g => exact (fetchByte_answers h).bind fun t ht => AnswersAs.intro ht
  | op2 g =>
    refine (fetchByte_answers h).bind fun t ht => ?_
    have hr : t.MemoryReady := State.memoryReady_of_arch ht (State.memoryReady_of_registry rfl h)
    have hpc : t.pc = s.pc + 1 := by simpa using State.pc_of_arch ht
    have hmem : t.mem = s.mem := by simpa using State.mem_of_arch ht
    refine (fetchByte_answers hr).bind fun u hu => ?_
    rw [hpc, hmem]
    refine AnswersAs.intro (hu.trans ?_)
    rw [State.setPc_arch, ht, hpc, State.setPc_arch, State.setPc_arch, State.setPc_setPc, BitVec.add_assoc]
    rfl

/-- The decoder reads the instruction the fetch builds. -/
theorem decode_eq_build {cfg : Config} {op b1 b2 : Byte} {e : OpcodeEntry} (h : opcodeEntry cfg op = some e) :
    ∃ rest, decode cfg [op, b1, b2] = .ok (e.form.build b1 b2) rest := by
  obtain ⟨_, _, _, _, _, f⟩ := e
  cases f <;> exact ⟨_, by simp [decode, h, Form.assemble, Form.build]; rfl⟩

/-- A halted core ignores the step. -/
theorem step_halted {s : State} (h : s.run.isHalted = true) : step s = .next (ignoredStep s) := by
  simp [step, h]

/-- A core that is not halted services the selected interrupt. -/
theorem step_interrupt {s : State} {k : InterruptKind} (h : s.run.isHalted = false) (hk : selectInterrupt s = some k) :
    step s = serviceStep k s.started := by
  simp [step, h, activeStep, hk, State.started]

/-- A core that is not halted and has no interrupt to take fetches and executes. -/
theorem step_instruction {s : State} (h : s.run.isHalted = false) (hk : selectInterrupt s = none) :
    step s = fetchAndExecute s.started := by
  simp [step, h, activeStep, hk, State.started]

/-- Everything a step that answers a next state can have done. -/
theorem step_cases {s t : State} (h : step s = .next t) :
    (s.run.isHalted = true ∧ t = ignoredStep s) ∨
    (s.run.isHalted = false ∧ ∃ k u, selectInterrupt s = some k ∧ serviceInterrupt k s.started = .next u ∧
      t = u.setResult (.serviced k)) ∨
    (s.run.isHalted = false ∧ selectInterrupt s = none ∧ ∃ op s1, fetchByte s.started = .next (op, s1) ∧
      ((opcodeEntry s1.cfg op = none ∧ t = illegalOpcode op s1) ∨
        ∃ e i s2 s3, opcodeEntry s1.cfg op = some e ∧ fetchOperand e.form s1 = .next (i, s2) ∧ exec i s2 = .next s3 ∧
          t = retire s.pc op e i s3)) := by
  cases hh : s.run.isHalted with
  | true =>
    rw [step_halted hh] at h
    cases h
    exact .inl ⟨rfl, rfl⟩
  | false =>
    cases hk : selectInterrupt s with
    | some k =>
      rw [step_interrupt hh hk] at h
      obtain ⟨u, hu, h1⟩ := andThen_eq_next.1 h
      cases h1
      exact .inr (.inl ⟨rfl, k, u, rfl, hu, rfl⟩)
    | none =>
      rw [step_instruction hh hk] at h
      obtain ⟨⟨op, s1⟩, h1, h2⟩ := andThen_eq_next.1 h
      refine .inr (.inr ⟨rfl, rfl, op, s1, h1, ?_⟩)
      cases he : opcodeEntry s1.cfg op with
      | none =>
        simp only [he] at h2
        cases h2
        exact .inl ⟨rfl, rfl⟩
      | some e =>
        simp only [he] at h2
        obtain ⟨⟨i, s2⟩, h3, h4⟩ := andThen_eq_next.1 h2
        obtain ⟨s3, h5, h6⟩ := andThen_eq_next.1 h4
        cases h6
        exact .inr ⟨e, i, s2, s3, rfl, h3, h5, rfl⟩

/-- Loading a program keeps the canonical form. -/
theorem Memory.wf_load {m : Memory} (h : m.wf = true) (addr : Word) (bs : List Byte) : (m.load addr bs).wf = true := by
  induction bs generalizing m addr with
  | nil => exact h
  | cons b bs ih => exact ih (Memory.wf_write h addr b) (addr + 1)

/-- One more step of a run. -/
theorem core_run_next {n : Nat} {s t : State} (h : step s = .next t) :
    Sys2Proof.core.run (n + 1) s = Sys2Proof.core.run n t := by
  have hc : Sys2Proof.core.step s = .next t := h
  simp only [Host.Core.run, hc]

@[simp] theorem retire_arch (pc0 : Word) (op : Byte) (e : OpcodeEntry) (i : Instr) (s : State) :
    (retire pc0 op e i s).arch = s.arch := rfl

@[simp] theorem ignoredStep_arch (s : State) : (ignoredStep s).arch = s.arch := rfl

@[simp] theorem illegalOpcode_arch (op : Byte) (s : State) : (illegalOpcode op s).arch = s.arch.halt .illegalOpcode := rfl

end Machine

end Sys2Proof
end

