-- ==== Sys2Proof/Tests/Slice0.lean ====
section
/-! SUPPORT. The model's own tests. Expected values come from the spec: the words of the decode tests are written out from R98 and
spec/opcode_table.json, the single steps are rows of spec/95_test_vectors.md, the rest are its worked examples E1 to E13. The witnesses at the
end show that the hypotheses of each obligation can be met together, clause by clause. -/

namespace Sys2Proof.Tests

set_option Elab.async false

open Sys2Proof Sys2Proof.Machine Sys2Proof.Claims

/-! ### Well-formedness: the one check, and the decoder that refuses what it refuses -/

/-- The parameters with `HAS_TRANSFER_GROUP` false. -/
def noTransfers : Config := { Config.default with hasTransferGroup := false }

theorem test_wellFormed_transfer_accepted : Instr.wellFormed Config.default .tax = true := by decide

theorem test_wellFormed_transfer_refused : Instr.wellFormed noTransfers .tax = false := by decide

theorem test_wellFormed_other_accepted : Instr.wellFormed noTransfers (.ldaImm 0x01) = true := by decide

theorem test_decode_refuses_what_is_not_well_formed :
    decode noTransfers [0b10101010] = .rejected (.illegalOpcode 0xAA) := by decide

/-! ### Decoding: words of every family and every format, bit by bit -/

theorem test_decode_load_immediate : decode Config.default [0b10101001, 0b00010000] = .ok (.ldaImm 0x10) [] := by decide

theorem test_decode_load_indirectY : decode Config.default [0b10110001, 0b01000010] = .ok (.ldaIzy 0x42) [] := by decide

theorem test_decode_store_absoluteX : decode Config.default [0b10011101, 0b00110100, 0b00010010] = .ok (.staAbx 0x1234) [] := by decide

theorem test_decode_store_zeroPageY : decode Config.default [0b10010110, 0b11111111] = .ok (.stxZpy 0xFF) [] := by decide

theorem test_decode_arithmetic_immediate : decode Config.default [0b01101001, 0b01010000] = .ok (.adcImm 0x50) [] := by decide

theorem test_decode_arithmetic_absoluteY : decode Config.default [0b11111001, 0b11110000, 0b00010010] = .ok (.sbcAby 0x12F0) [] := by decide

theorem test_decode_increment_zeroPageX : decode Config.default [0b11110110, 0b00010000] = .ok (.incZpx 0x10) [] := by decide

theorem test_decode_increment_implied : decode Config.default [0b11101000] = .ok .inx [] := by decide

theorem test_decode_logical_indirectX : decode Config.default [0b00100001, 0b00010000] = .ok (.andIzx 0x10) [] := by decide

theorem test_decode_bit_absolute : decode Config.default [0b00101100, 0b00110100, 0b00010010] = .ok (.bitAbs 0x1234) [] := by decide

theorem test_decode_shift_accumulator : decode Config.default [0b01101010] = .ok .rorAcc [] := by decide

theorem test_decode_shift_zeroPage : decode Config.default [0b00000110, 0b00010000] = .ok (.aslZp 0x10) [] := by decide

theorem test_decode_compare_immediate : decode Config.default [0b11100000, 0b00010000] = .ok (.cpxImm 0x10) [] := by decide

theorem test_decode_branch : decode Config.default [0b11010000, 0b11111011] = .ok (.bne 0xFB) [] := by decide

theorem test_decode_jump_indirect : decode Config.default [0b01101100, 0b00000000, 0b00000011] = .ok (.jmpInd 0x0300) [] := by decide

theorem test_decode_call : decode Config.default [0b00100000, 0b00000000, 0b10010000] = .ok (.jsr 0x9000) [] := by decide

theorem test_decode_stack : decode Config.default [0b01001000] = .ok .pha [] := by decide

theorem test_decode_flag : decode Config.default [0b00111000] = .ok .sec [] := by decide

theorem test_decode_break : decode Config.default [0b00000000] = .ok .brk [] := by decide

theorem test_decode_return : decode Config.default [0b01000000] = .ok .rti [] := by decide

theorem test_decode_transfer : decode Config.default [0b10011010] = .ok .txs [] := by decide

theorem test_decode_leaves_the_rest : decode Config.default [0xEA, 0x01, 0x02] = .ok .nop [0x01, 0x02] := by decide

theorem test_decode_illegal_by_name : decode Config.default [0x02, 0xFF] = .rejected (.illegalOpcode 0x02) := by decide

theorem test_decode_truncated_by_name : decode Config.default [0x4C, 0x34] = .rejected .truncated := by decide

theorem test_encode_low_byte_first : encode (.jmpAbs 0x1234) = [0x4C, 0x34, 0x12] := by decide

/-- A table word shorter than its instruction: the operand bytes are zero. -/
theorem test_decodeTableWord : decodeTableWord 8 0xAD = some (.ldaAbs 0x0000) := by decide

theorem test_decodeTableWord_operand : decodeTableWord 24 0x12349D = some (.staAbx 0x1234) := by decide

theorem test_decodeTableWord_illegal : decodeTableWord 8 0x02 = none := by decide

/-! ### Steps -/

/-- The start state of the vectors: Running, bytes from `pc` on, and some cells. -/
def placed (pc : Word) (bytes : List Byte) (cells : List (Word × Byte)) : State :=
  { State.reset with
    pc := pc
    run := .running
    mem := cells.foldl (fun m c => m.write c.1 c.2) (Memory.load [] pc bytes) }

/-- A step ends with these registers, this result, run state and latches, and memory changed by these writes only. -/
def lands (s : State) (a x y p sp : Byte) (pc : Word) (r : StepResult) (run : RunState) (nmi irq : Bool)
    (writes : List (Word × Byte)) : Bool :=
  match step s with
  | .next t =>
    t.a == a && t.x == x && t.y == y && t.p.toByte == p && t.sp == sp && t.pc == pc && t.obs.result == some r && t.run == run &&
      t.nmiPending == nmi && t.irqPending == irq && t.mem == writes.foldl (fun m c => m.write c.1 c.2) s.mem
  | .fault _ => false
  | .refused _ => false

/-- V41 row 5: `LDA $FF,X`. -/
theorem test_lda_v41_5 : lands { placed 0x0200 [0xB5, 0xFF] [(0x0001, 0x11), (0x0101, 0xEE)] with x := 0x02 }
    0x11 0x02 0x00 0x20 0xFD 0x0202 (.executed 4) .running false false [] = true := by decide +kernel

/-- V41 row 10: `LDA ($FF),Y`. -/
theorem test_lda_v41_10 : lands { placed 0x0200 [0xB1, 0xFF] [(0x00FF, 0xF8), (0x0000, 0x12), (0x0100, 0x99), (0x1308, 0xC3)] with y := 0x10 }
    0xC3 0x00 0x10 0xA0 0xFD 0x0202 (.executed 6) .running false false [] = true := by decide +kernel

/-- V41 row 12: `LDX $FF,Y`. -/
theorem test_ldx_v41_12 : lands { placed 0x0200 [0xB6, 0xFF] [(0x0001, 0x80)] with y := 0x02 }
    0x00 0x80 0x02 0xA0 0xFD 0x0202 (.executed 4) .running false false [] = true := by decide +kernel

/-- V41 row 13: `LDX $12F0,Y`. -/
theorem test_ldx_v41_13 : lands { placed 0x0200 [0xBE, 0xF0, 0x12] [(0x1310, 0x00)] with y := 0x20 }
    0x00 0x00 0x20 0x22 0xFD 0x0203 (.executed 5) .running false false [] = true := by decide +kernel

/-- V41 row 14: `LDY $1280,X`. -/
theorem test_ldy_v41_14 : lands { placed 0x0200 [0xBC, 0x80, 0x12] [(0x1300, 0x44)] with x := 0x80 }
    0x00 0x80 0x44 0x20 0xFD 0x0203 (.executed 5) .running false false [] = true := by decide +kernel

/-- V41 row 17: `STA ($40),Y`. -/
theorem test_sta_v41_17 : lands { placed 0x0200 [0x91, 0x40] [(0x0040, 0x01), (0x0041, 0x30)] with a := 0x00, y := 0xFF }
    0x00 0x00 0xFF 0x20 0xFD 0x0202 (.executed 6) .running false false [(0x3100, 0x00)] = true := by decide +kernel

/-- V41 row 19: `STX $FF,Y`. -/
theorem test_stx_v41_19 : lands { placed 0x0200 [0x96, 0xFF] [] with x := 0x77, y := 0x01 }
    0x00 0x77 0x01 0x20 0xFD 0x0202 (.executed 4) .running false false [(0x0000, 0x77)] = true := by decide +kernel

/-- V41 row 20: `STY $80,X`. -/
theorem test_sty_v41_20 : lands { placed 0x0200 [0x94, 0x80] [] with x := 0x90, y := 0x01 }
    0x00 0x90 0x01 0x20 0xFD 0x0202 (.executed 4) .running false false [(0x0010, 0x01)] = true := by decide +kernel

/-- V41 row 21: `STA $0201`. -/
theorem test_sta_v41_21 : lands { placed 0x0200 [0x8D, 0x01, 0x02] [] with a := 0xEA }
    0xEA 0x00 0x00 0x20 0xFD 0x0203 (.executed 4) .running false false [(0x0201, 0xEA)] = true := by decide +kernel

/-- V42 row 4: `ADC #$80`. -/
theorem test_adc_v42_4 : lands { placed 0x0200 [0x69, 0x80] [] with a := 0x80 }
    0x00 0x00 0x00 0x63 0xFD 0x0202 (.executed 2) .running false false [] = true := by decide +kernel

/-- V42 row 12: `SBC #$01`. -/
theorem test_sbc_v42_12 : lands { placed 0x0200 [0xE9, 0x01] [] with a := 0x80, p := Status.ofByte 0x21 }
    0x7F 0x00 0x00 0x61 0xFD 0x0202 (.executed 2) .running false false [] = true := by decide +kernel

/-- V42, decimal mode row 9: `ADC #$46`. -/
theorem test_adc_v42d_9 : lands { placed 0x0200 [0x69, 0x46] [] with a := 0x58, p := Status.ofByte 0x29 }
    0x05 0x00 0x00 0x29 0xFD 0x0202 (.executed 2) .running false false [] = true := by decide +kernel

/-- V42, decimal mode row 17: `SBC #$21`. -/
theorem test_sbc_v42d_17 : lands { placed 0x0200 [0xE9, 0x21] [] with a := 0x12, p := Status.ofByte 0x29 }
    0x91 0x00 0x00 0xA8 0xFD 0x0202 (.executed 2) .running false false [] = true := by decide +kernel

/-- V43 row 1: `INC $10`. -/
theorem test_inc_v43_1 : lands { placed 0x0200 [0xE6, 0x10] [(0x0010, 0xFF)] with p := Status.ofByte 0x61 }
    0x00 0x00 0x00 0x63 0xFD 0x0202 (.executed 5) .running false false [(0x0010, 0x00)] = true := by decide +kernel

/-- V43 row 3: `INC $12FF,X`. -/
theorem test_inc_v43_3 : lands { placed 0x0200 [0xFE, 0xFF, 0x12] [(0x1300, 0x00)] with x := 0x01 }
    0x00 0x01 0x00 0x20 0xFD 0x0203 (.executed 7) .running false false [(0x1300, 0x01)] = true := by decide +kernel

/-- V43 row 4: `DEC $10`. -/
theorem test_dec_v43_4 : lands (placed 0x0200 [0xC6, 0x10] [(0x0010, 0x00)])
    0x00 0x00 0x00 0xA0 0xFD 0x0202 (.executed 5) .running false false [(0x0010, 0xFF)] = true := by decide +kernel

/-- V43 row 5: `DEC $F0,X`. -/
theorem test_dec_v43_5 : lands { placed 0x0200 [0xD6, 0xF0] [(0x0010, 0x01)] with x := 0x20 }
    0x00 0x20 0x00 0x22 0xFD 0x0202 (.executed 6) .running false false [(0x0010, 0x00)] = true := by decide +kernel

/-- V43 row 7: `INX`. -/
theorem test_inx_v43_7 : lands { placed 0x0200 [0xE8] [] with x := 0xFF }
    0x00 0x00 0x00 0x22 0xFD 0x0201 (.executed 2) .running false false [] = true := by decide +kernel

/-- V43 row 9: `INY`. -/
theorem test_iny_v43_9 : lands { placed 0x0200 [0xC8] [] with y := 0xFF, p := Status.ofByte 0x29 }
    0x00 0x00 0x00 0x2B 0xFD 0x0201 (.executed 2) .running false false [] = true := by decide +kernel

/-- V43 row 10: `DEX`. -/
theorem test_dex_v43_10 : lands { placed 0x0200 [0xCA] [] with x := 0x00 }
    0x00 0xFF 0x00 0xA0 0xFD 0x0201 (.executed 2) .running false false [] = true := by decide +kernel

/-- V43 row 12: `DEY`. -/
theorem test_dey_v43_12 : lands { placed 0x0200 [0x88] [] with y := 0x80 }
    0x00 0x00 0x7F 0x20 0xFD 0x0201 (.executed 2) .running false false [] = true := by decide +kernel

/-- V44 row 1: `AND #$3C`. -/
theorem test_and_v44_1 : lands { placed 0x0200 [0x29, 0x3C] [] with a := 0xF0 }
    0x30 0x00 0x00 0x20 0xFD 0x0202 (.executed 2) .running false false [] = true := by decide +kernel

/-- V44 row 6: `ORA ($20),Y`. -/
theorem test_ora_v44_6 : lands { placed 0x0200 [0x11, 0x20] [(0x0020, 0x01), (0x0021, 0x40), (0x4100, 0x02)] with a := 0x01, y := 0xFF }
    0x03 0x00 0xFF 0x20 0xFD 0x0202 (.executed 6) .running false false [] = true := by decide +kernel

/-- V44 row 9: `EOR $1234`. -/
theorem test_eor_v44_9 : lands { placed 0x0200 [0x4D, 0x34, 0x12] [(0x1234, 0xF0)] with a := 0x0F }
    0xFF 0x00 0x00 0xA0 0xFD 0x0203 (.executed 4) .running false false [] = true := by decide +kernel

/-- V44 row 11: `BIT $40`. -/
theorem test_bit_v44_11 : lands { placed 0x0200 [0x24, 0x40] [(0x0040, 0xC0)] with a := 0x3F }
    0x3F 0x00 0x00 0xE2 0xFD 0x0202 (.executed 3) .running false false [] = true := by decide +kernel

/-- V44 row 12: `BIT $1234`. -/
theorem test_bit_v44_12 : lands { placed 0x0200 [0x2C, 0x34, 0x12] [(0x1234, 0x00)] with a := 0x00, p := Status.ofByte 0xE1 }
    0x00 0x00 0x00 0x23 0xFD 0x0203 (.executed 4) .running false false [] = true := by decide +kernel

/-- V45 row 2: `ASL A`. -/
theorem test_asl_v45_2 : lands { placed 0x0200 [0x0A] [] with a := 0x80, p := Status.ofByte 0x21 }
    0x00 0x00 0x00 0x23 0xFD 0x0201 (.executed 2) .running false false [] = true := by decide +kernel

/-- V45 row 4: `ASL $10`. -/
theorem test_asl_v45_4 : lands (placed 0x0200 [0x06, 0x10] [(0x0010, 0x55)])
    0x00 0x00 0x00 0xA0 0xFD 0x0202 (.executed 5) .running false false [(0x0010, 0xAA)] = true := by decide +kernel

/-- V45 row 5: `LSR A`. -/
theorem test_lsr_v45_5 : lands { placed 0x0200 [0x4A] [] with a := 0x01, p := Status.ofByte 0xA0 }
    0x00 0x00 0x00 0x23 0xFD 0x0201 (.executed 2) .running false false [] = true := by decide +kernel

/-- V45 row 7: `LSR $1200,X`. -/
theorem test_lsr_v45_7 : lands { placed 0x0200 [0x5E, 0x00, 0x12] [(0x12FF, 0x80)] with x := 0xFF, p := Status.ofByte 0x21 }
    0x00 0xFF 0x00 0x20 0xFD 0x0203 (.executed 7) .running false false [(0x12FF, 0x40)] = true := by decide +kernel

/-- V45 row 8: `ROL A`. -/
theorem test_rol_v45_8 : lands { placed 0x0200 [0x2A] [] with a := 0x40, p := Status.ofByte 0x21 }
    0x81 0x00 0x00 0xA0 0xFD 0x0201 (.executed 2) .running false false [] = true := by decide +kernel

/-- V45 row 11: `ROL $F0,X`. -/
theorem test_rol_v45_11 : lands { placed 0x0200 [0x36, 0xF0] [(0x0010, 0xFF)] with x := 0x20, p := Status.ofByte 0x21 }
    0x00 0x20 0x00 0xA1 0xFD 0x0202 (.executed 6) .running false false [(0x0010, 0xFF)] = true := by decide +kernel

/-- V45 row 12: `ROR A`. -/
theorem test_ror_v45_12 : lands { placed 0x0200 [0x6A] [] with a := 0x02, p := Status.ofByte 0x21 }
    0x81 0x00 0x00 0xA0 0xFD 0x0201 (.executed 2) .running false false [] = true := by decide +kernel

/-- V45 row 15: `ROR $0300`. -/
theorem test_ror_v45_15 : lands (placed 0x0200 [0x6E, 0x00, 0x03] [(0x0300, 0xFF)])
    0x00 0x00 0x00 0x21 0xFD 0x0203 (.executed 6) .running false false [(0x0300, 0x7F)] = true := by decide +kernel

/-- V46 row 6: `CMP #$FF`. -/
theorem test_cmp_v46_6 : lands { placed 0x0200 [0xC9, 0xFF] [] with a := 0x00 }
    0x00 0x00 0x00 0x20 0xFD 0x0202 (.executed 2) .running false false [] = true := by decide +kernel

/-- V46 row 8: `CMP $12F0,Y`. -/
theorem test_cmp_v46_8 : lands { placed 0x0200 [0xD9, 0xF0, 0x12] [(0x1300, 0x10)] with a := 0x10, y := 0x10 }
    0x10 0x00 0x10 0x23 0xFD 0x0203 (.executed 5) .running false false [] = true := by decide +kernel

/-- V46 row 10: `CPX $20`. -/
theorem test_cpx_v46_10 : lands { placed 0x0200 [0xE4, 0x20] [(0x0020, 0x01)] with x := 0x00 }
    0x00 0x00 0x00 0xA0 0xFD 0x0202 (.executed 3) .running false false [] = true := by decide +kernel

/-- V46 row 12: `CPY $1234`. -/
theorem test_cpy_v46_12 : lands { placed 0x0200 [0xCC, 0x34, 0x12] [(0x1234, 0xFF)] with y := 0xFF }
    0x00 0x00 0xFF 0x23 0xFD 0x0203 (.executed 4) .running false false [] = true := by decide +kernel

/-- V47 row 1: `BCC *+4`. -/
theorem test_bcc_v47_1 : lands (placed 0x0200 [0x90, 0x02] [])
    0x00 0x00 0x00 0x20 0xFD 0x0204 (.executed 3) .running false false [] = true := by decide +kernel

/-- V47 row 2: `BCC *+4`. -/
theorem test_bcc_v47_2 : lands { placed 0x0200 [0x90, 0x02] [] with p := Status.ofByte 0x21 }
    0x00 0x00 0x00 0x21 0xFD 0x0202 (.executed 2) .running false false [] = true := by decide +kernel

/-- V47 row 3: `BCS *+4`. -/
theorem test_bcs_v47_3 : lands { placed 0x0200 [0xB0, 0x02] [] with p := Status.ofByte 0x21 }
    0x00 0x00 0x00 0x21 0xFD 0x0204 (.executed 3) .running false false [] = true := by decide +kernel

/-- V47 row 4: `BEQ $0312`. -/
theorem test_beq_v47_4 : lands { placed 0x02F0 [0xF0, 0x20] [] with p := Status.ofByte 0x22 }
    0x00 0x00 0x00 0x22 0xFD 0x0312 (.executed 4) .running false false [] = true := by decide +kernel

/-- V47 row 6: `BNE $0202`. -/
theorem test_bne_v47_6 : lands (placed 0x0205 [0xD0, 0xFB] [])
    0x00 0x00 0x00 0x20 0xFD 0x0202 (.executed 3) .running false false [] = true := by decide +kernel

/-- V47 row 8: `BMI $0281`. -/
theorem test_bmi_v47_8 : lands { placed 0x0200 [0x30, 0x7F] [] with p := Status.ofByte 0xA0 }
    0x00 0x00 0x00 0xA0 0xFD 0x0281 (.executed 3) .running false false [] = true := by decide +kernel

/-- V47 row 9: `BPL $0182`. -/
theorem test_bpl_v47_9 : lands (placed 0x0200 [0x10, 0x80] [])
    0x00 0x00 0x00 0x20 0xFD 0x0182 (.executed 4) .running false false [] = true := by decide +kernel

/-- V47 row 10: `BVC *+2`. -/
theorem test_bvc_v47_10 : lands (placed 0x0200 [0x50, 0x00] [])
    0x00 0x00 0x00 0x20 0xFD 0x0202 (.executed 3) .running false false [] = true := by decide +kernel

/-- V47 row 12: `BVS *+18`. -/
theorem test_bvs_v47_12 : lands { placed 0x0200 [0x70, 0x10] [] with p := Status.ofByte 0x60 }
    0x00 0x00 0x00 0x60 0xFD 0x0212 (.executed 3) .running false false [] = true := by decide +kernel

/-- V47 row 15: `BPL $FF82`. -/
theorem test_bpl_v47_15 : lands (placed 0x0000 [0x10, 0x80] [])
    0x00 0x00 0x00 0x20 0xFD 0xFF82 (.executed 4) .running false false [] = true := by decide +kernel

/-- V47 row 16: `JMP $1234`. -/
theorem test_jmp_v47_16 : lands (placed 0x0200 [0x4C, 0x34, 0x12] [])
    0x00 0x00 0x00 0x20 0xFD 0x1234 (.executed 3) .running false false [] = true := by decide +kernel

/-- V47 row 19: `JMP ($12FF)`. -/
theorem test_jmp_v47_19 : lands (placed 0x0200 [0x6C, 0xFF, 0x12] [(0x12FF, 0x78), (0x1300, 0x56), (0x1200, 0x99)])
    0x00 0x00 0x00 0x20 0xFD 0x5678 (.executed 5) .running false false [] = true := by decide +kernel

/-- V47 row 22: `JSR $9000`. -/
theorem test_jsr_v47_22 : lands { placed 0x8000 [0x20, 0x00, 0x90] [] with sp := 0x00 }
    0x00 0x00 0x00 0x20 0xFE 0x9000 (.executed 6) .running false false [(0x0100, 0x80), (0x01FF, 0x02)] = true := by decide +kernel

/-- V47 row 25: `RTS`. -/
theorem test_rts_v47_25 : lands { placed 0x0200 [0x60] [(0x0100, 0xFF), (0x0101, 0xFF)] with sp := 0xFF }
    0x00 0x00 0x00 0x20 0x01 0x0000 (.executed 6) .running false false [] = true := by decide +kernel

/-- V48 row 2: `PHA`. -/
theorem test_pha_v48_2 : lands { placed 0x0200 [0x48] [] with a := 0x42, sp := 0x00 }
    0x42 0x00 0x00 0x20 0xFF 0x0201 (.executed 3) .running false false [(0x0100, 0x42)] = true := by decide +kernel

/-- V48 row 4: `PLA`. -/
theorem test_pla_v48_4 : lands { placed 0x0200 [0x68] [(0x0100, 0x80)] with sp := 0xFF }
    0x80 0x00 0x00 0xA0 0x00 0x0201 (.executed 4) .running false false [] = true := by decide +kernel

/-- V48 row 6: `PHP`. -/
theorem test_php_v48_6 : lands { placed 0x0200 [0x08] [] with p := Status.ofByte 0xA1 }
    0x00 0x00 0x00 0xA1 0xFC 0x0201 (.executed 3) .running false false [(0x01FD, 0xB1)] = true := by decide +kernel

/-- V48 row 8: `PLP`. -/
theorem test_plp_v48_8 : lands { placed 0x0200 [0x28] [(0x01FD, 0xFF)] with sp := 0xFC }
    0x00 0x00 0x00 0xEF 0xFD 0x0201 (.executed 4) .running false false [] = true := by decide +kernel

/-- V48 row 10: `PLP`. -/
theorem test_plp_v48_10 : lands { placed 0x0200 [0x28] [(0x01FD, 0x00)] with p := Status.ofByte 0x30, sp := 0xFC }
    0x00 0x00 0x00 0x30 0xFD 0x0201 (.executed 4) .running false false [] = true := by decide +kernel

/-- V48 row 11: `CLC`. -/
theorem test_clc_v48_11 : lands { placed 0x0200 [0x18] [] with p := Status.ofByte 0xFF }
    0x00 0x00 0x00 0xFE 0xFD 0x0201 (.executed 2) .running false false [] = true := by decide +kernel

/-- V48 row 12: `SEC`. -/
theorem test_sec_v48_12 : lands (placed 0x0200 [0x38] [])
    0x00 0x00 0x00 0x21 0xFD 0x0201 (.executed 2) .running false false [] = true := by decide +kernel

/-- V48 row 13: `CLI`. -/
theorem test_cli_v48_13 : lands { placed 0x0200 [0x58] [] with p := Status.ofByte 0x24 }
    0x00 0x00 0x00 0x20 0xFD 0x0201 (.executed 2) .running false false [] = true := by decide +kernel

/-- V48 row 14: `SEI`. -/
theorem test_sei_v48_14 : lands (placed 0x0200 [0x78] [])
    0x00 0x00 0x00 0x24 0xFD 0x0201 (.executed 2) .running false false [] = true := by decide +kernel

/-- V48 row 15: `CLD`. -/
theorem test_cld_v48_15 : lands { placed 0x0200 [0xD8] [] with p := Status.ofByte 0x28 }
    0x00 0x00 0x00 0x20 0xFD 0x0201 (.executed 2) .running false false [] = true := by decide +kernel

/-- V48 row 16: `SED`. -/
theorem test_sed_v48_16 : lands (placed 0x0200 [0xF8] [])
    0x00 0x00 0x00 0x28 0xFD 0x0201 (.executed 2) .running false false [] = true := by decide +kernel

/-- V48 row 17: `CLV`. -/
theorem test_clv_v48_17 : lands { placed 0x0200 [0xB8] [] with p := Status.ofByte 0x60 }
    0x00 0x00 0x00 0x20 0xFD 0x0201 (.executed 2) .running false false [] = true := by decide +kernel

/-- V49 row 2: `BRK`. -/
theorem test_brk_v49_2 : lands { placed 0x12FF [0x00] [] with p := Status.ofByte 0xE7, sp := 0x01 }
    0x00 0x00 0x00 0xE7 0xFE 0x1300 (.executed 7) (.halted .brk) false false [(0x0101, 0x13), (0x0100, 0x02), (0x01FF, 0xF7)] = true := by decide +kernel

/-- V49 row 3: `RTI`. -/
theorem test_rti_v49_3 : lands { placed 0x0200 [0x40] [(0x01FB, 0xA1), (0x01FC, 0x34), (0x01FD, 0x12)] with p := Status.ofByte 0x24, sp := 0xFA }
    0x00 0x00 0x00 0xA1 0xFD 0x1234 (.executed 6) .running false false [] = true := by decide +kernel

/-- V49 row 5: `RTI`. -/
theorem test_rti_v49_5 : lands { placed 0x0200 [0x40] [(0x01FF, 0x00), (0x0100, 0xCD), (0x0101, 0xAB)] with p := Status.ofByte 0x30, sp := 0xFE }
    0x00 0x00 0x00 0x30 0x01 0xABCD (.executed 6) .running false false [] = true := by decide +kernel

/-- V49 row 6: `NOP`. -/
theorem test_nop_v49_6 : lands { placed 0x0200 [0xEA] [] with a := 0x01, x := 0x02, y := 0x03, p := Status.ofByte 0xE3 }
    0x01 0x02 0x03 0xE3 0xFD 0x0201 (.executed 2) .running false false [] = true := by decide +kernel

/-- V49 row 7: `TAX`. -/
theorem test_tax_v49_7 : lands { placed 0x0200 [0xAA] [] with a := 0x80 }
    0x80 0x80 0x00 0xA0 0xFD 0x0201 (.executed 2) .running false false [] = true := by decide +kernel

/-- V49 row 8: `TAY`. -/
theorem test_tay_v49_8 : lands { placed 0x0200 [0xA8] [] with a := 0x00, y := 0x03 }
    0x00 0x00 0x00 0x22 0xFD 0x0201 (.executed 2) .running false false [] = true := by decide +kernel

/-- V49 row 9: `TXA`. -/
theorem test_txa_v49_9 : lands { placed 0x0200 [0x8A] [] with a := 0xFF, x := 0x7F, p := Status.ofByte 0xA0 }
    0x7F 0x7F 0x00 0x20 0xFD 0x0201 (.executed 2) .running false false [] = true := by decide +kernel

/-- V49 row 10: `TYA`. -/
theorem test_tya_v49_10 : lands { placed 0x0200 [0x98] [] with y := 0xFF }
    0xFF 0x00 0xFF 0xA0 0xFD 0x0201 (.executed 2) .running false false [] = true := by decide +kernel

/-- V49 row 12: `TSX`. -/
theorem test_tsx_v49_12 : lands { placed 0x0200 [0xBA] [] with sp := 0x00 }
    0x00 0x00 0x00 0x22 0x00 0x0201 (.executed 2) .running false false [] = true := by decide +kernel

/-- V49 row 14: `TXS`. -/
theorem test_txs_v49_14 : lands { placed 0x0200 [0x9A] [] with x := 0x00, p := Status.ofByte 0xA0 }
    0x00 0x00 0x00 0xA0 0x00 0x0201 (.executed 2) .running false false [] = true := by decide +kernel

/-- V60 row 1: `(0x02)`. -/
theorem test_illegal_v60_1 : lands { placed 0x0200 [0x02, 0xFF] [] with a := 0x11, p := Status.ofByte 0xE3 }
    0x11 0x00 0x00 0xE3 0xFD 0x0201 (.illegalOpcode 0x02) (.halted .illegalOpcode) false false [] = true := by decide +kernel

/-- V60 row 3: `(0xFF)`. -/
theorem test_illegal_v60_3 : lands (placed 0xFFFF [0xFF] [])
    0x00 0x00 0x00 0x20 0xFD 0x0000 (.illegalOpcode 0xFF) (.halted .illegalOpcode) false false [] = true := by decide +kernel

/-- V61 row 1: `nmi false, irq false after`. -/
theorem test_interrupt_v61_1 : lands { placed 0x1234 [0xEA] [(0xFFFB, 0x90), (0xFFFF, 0xA0)] with nmiPending := true, p := Status.ofByte 0x21 }
    0x00 0x00 0x00 0x25 0xFA 0x9000 (.serviced .nmi) .running false false [(0x01FD, 0x12), (0x01FC, 0x34), (0x01FB, 0x21)] = true := by decide +kernel

/-- V61 row 4: `nmi false, irq true after`. -/
theorem test_interrupt_v61_4 : lands { placed 0x1234 [0xEA] [(0xFFFB, 0x90), (0xFFFF, 0xA0)] with irqPending := true, p := Status.ofByte 0x24 }
    0x00 0x00 0x00 0x24 0xFD 0x1235 (.executed 2) .running false true [] = true := by decide +kernel

/-- V61 row 5: `nmi false, irq true after`. -/
theorem test_interrupt_v61_5 : lands { placed 0x1234 [0xEA] [(0xFFFB, 0x90), (0xFFFF, 0xA0)] with nmiPending := true, irqPending := true }
    0x00 0x00 0x00 0x24 0xFA 0x9000 (.serviced .nmi) .running false true [(0x01FD, 0x12), (0x01FC, 0x34), (0x01FB, 0x20)] = true := by decide +kernel

/-- V61 row 6: `nmi false, irq false after`. -/
theorem test_interrupt_v61_6 : lands { placed 0x1234 [0xEA] [(0xFFFB, 0x90), (0xFFFF, 0xA0)] with irqPending := true, a := 0x11, x := 0x22, y := 0x33, p := Status.ofByte 0xEB, sp := 0x01 }
    0x11 0x22 0x33 0xEF 0xFE 0xA000 (.serviced .irq) .running false false [(0x0101, 0x12), (0x0100, 0x34), (0x01FF, 0xEB)] = true := by decide +kernel

/-- V61 row 9: `nmi true, irq true after`. -/
theorem test_interrupt_v61_9 : lands { placed 0x1234 [0xEA] [(0xFFFB, 0x90), (0xFFFF, 0xA0)] with nmiPending := true, irqPending := true, run := .halted .brk }
    0x00 0x00 0x00 0x20 0xFD 0x1234 .ignored (.halted .brk) true true [] = true := by decide +kernel

/-- V61 row 11: `nmi false, irq false after`. -/
theorem test_interrupt_v61_11 : lands { placed 0x1234 [0xEA] [(0xFFFB, 0x90), (0xFFFF, 0xA0)] with irqPending := true, cfg := ⟨true, false, 2⟩ }
    0x00 0x00 0x00 0x20 0xFA 0xA000 (.serviced .irq) .running false false [(0x01FD, 0x12), (0x01FC, 0x34), (0x01FB, 0x20)] = true := by decide +kernel

/-- D8, U2: decimal mode on an operand that is not valid BCD runs, and what it leaves is the free value. -/
theorem test_adc_decimal_invalid : ∃ t, exec (.adcImm 0x0F) { State.reset with p := Status.ofByte 0x28 } = .next t ∧
    t.a = (Config.decimalInvalid .add 0x00 0x0F false).r ∧ t.p.v = false := ⟨_, rfl, rfl, rfl⟩

/-- R285: the event of `LDA $42` with debugging enabled. -/
theorem test_debug_event : ∃ t, step { placed 0x0200 [0xA5, 0x42] [] with debugEnabled := true } = .next t ∧
    t.obs.event = some ⟨0x0200, 0xA5, 3, .zeroPage 0x42⟩ := ⟨_, rfl, rfl⟩

/-- R288: an interrupt entry reports 7 cycles. -/
theorem test_serviced_cycles : (StepResult.serviced .nmi).cycles = some 7 := rfl

/-! ### Reset, bus and registry (E8 to E10) -/

/-- E9, P6: reset loads PC from 0xFFFC, low byte first. -/
theorem test_reset_vector : ∃ t, hostReset (State.powerOn Config.default [(0xFFFC, 0x34), (0xFFFD, 0x12)]) = .next t ∧ t.pc = 0x1234 ∧
    t.sp = 0xFD ∧ t.p.toByte = 0x20 ∧ t.run = .ready := ⟨_, rfl, by decide, by decide, by decide, by decide⟩

/-- `State.reset` is what `reset()` makes of the machine at power-on with empty memory (log 3). -/
theorem test_reset_is_hostReset : CompletesAs (hostReset (State.powerOn Config.default [])) State.reset := ⟨_, rfl, by decide⟩

/-- P6: a step without a reset runs at 0x0000 (R301). -/
theorem test_p6_step_without_reset : lands (State.powerOn Config.default [(0x0000, 0xE8), (0xFFFC, 0x34), (0xFFFD, 0x12)])
    0x00 0x01 0x00 0x20 0xFD 0x0001 (.executed 2) .running false false [] = true := by decide +kernel

/-- P6: reset after the host wrote A and P. -/
theorem test_p6_reset_after_host_writes : CompletesAs
    (hostReset (hostWriteP 0xFF ((State.powerOn Config.default [(0xFFFC, 0x34), (0xFFFD, 0x12)]).setA 0x55)))
    { State.powerOn Config.default [(0xFFFC, 0x34), (0xFFFD, 0x12)] with pc := 0x1234 } := ⟨_, rfl, by decide⟩

/-- P6: BRK with the addend 1. -/
theorem test_p6_brk_addend : lands { placed 0x0200 [0x00] [] with cfg := ⟨true, true, 1⟩ } 0x00 0x00 0x00 0x24 0xFA 0x0201 (.executed 7)
    (.halted .brk) false false [(0x01FD, 0x02), (0x01FC, 0x02), (0x01FB, 0x30)] = true := by decide +kernel

/-- E8: a write and a read of the same address over the bus. -/
theorem test_bus_round_trip : ∃ r t u, busExecute "CPU" "Memory" ⟨0x1234, 0xAB, .write⟩ State.reset = .next (r, t) ∧
    busExecute "CPU" "Memory" ⟨0x1234, 0x00, .read⟩ t = .next (⟨0x1234, 0xAB, .read⟩, u) := ⟨_, _, _, rfl, rfl⟩

/-- E10: an unknown destination. -/
theorem test_component_not_found : busExecute "CPU" "Video" ⟨0x0000, 0x00, .read⟩ State.reset =
    .fault (.bus (.componentNotFound "Video") State.reset) := rfl

theorem test_memory_zero_write_is_canonical : ((Memory.write [] 0x1234 0x01).write 0x1234 0x00) = [] := by decide

/-- The very next step after `withFetchWord` on reset runs the word. -/
theorem test_withFetchWord : lands (State.reset.withFetchWord 16 0x80A9) 0x80 0x00 0x00 0xA0 0xFD 0x0002 (.executed 2) .running false false [] =
    true := by decide +kernel

theorem test_withFetchWord_halted : lands ({ State.reset with run := .halted .brk }.withFetchWord 8 0xEA) 0x00 0x00 0x00 0x20 0xFD 0x0001
    (.executed 2) .running false false [] = true := by decide +kernel

/-! ### Witnesses: the hypotheses of each obligation, met together -/

theorem witness_DecodeOfEncodeGivesInstruction : Instr.wellFormed Config.default .tax = true ∧ Instr.wellFormed noTransfers (.jmpAbs 0xFFFF) = true := by decide

theorem witness_DecodedBytesAreTheEncoding : decode noTransfers [0x4C, 0xFF, 0xFF, 0xAA] = .ok (.jmpAbs 0xFFFF) [0xAA] := by decide

theorem witness_EntrySizesTheInstruction : ∃ e, opcodeEntry Config.default 0x4C = some e ∧ e.mode.operandBytes ≤ ([0xFF, 0xFF] : List Byte).length := ⟨_, rfl, by decide⟩

theorem witness_PushWritesThenDecrements : ∃ t, State.reset.MemoryReady ∧ State.reset.mem.wf = true ∧ push8 0xFF State.reset = .next t := ⟨_, by decide, by decide, rfl⟩

theorem witness_PullIncrementsThenReads : ∃ t, { State.reset with sp := 0x00 }.MemoryReady ∧ { State.reset with sp := 0x00 }.mem.wf = true ∧
    push8 0xFF { State.reset with sp := 0x00 } = .next t := ⟨_, by decide, by decide, rfl⟩

theorem witness_WordPushAndPull : ∃ t, { State.reset with sp := 0x00 }.MemoryReady ∧ { State.reset with sp := 0x00 }.mem.wf = true ∧
    push16 0x1234 { State.reset with sp := 0x00 } = .next t := ⟨_, by decide, by decide, rfl⟩

theorem witness_EffectiveAddresses : ∃ s : State, s.MemoryReady := ⟨State.reset, by decide⟩

theorem witness_ExecuteRoutesToTheDestination_notFound : findComponent State.reset.registry "Video" = none := rfl

theorem witness_ExecuteRoutesToTheDestination_noDirection : ∃ r, findComponent State.reset.registry "Memory" = some r ∧ (⟨0, 0, .none⟩ : BusTransaction).operation = .none := ⟨_, rfl, rfl⟩

theorem witness_ExecuteRoutesToTheDestination_lockFailed : ∃ r, findComponent [⟨"Memory", .memory, true⟩] "Memory" = some r ∧ (⟨0, 0, .read⟩ : BusTransaction).operation ≠ .none ∧
    r.inFlight = true := ⟨_, rfl, by decide, rfl⟩

theorem witness_ExecuteRoutesToTheDestination_toCpu : ∃ r, findComponent State.reset.registry "CPU" = some r ∧ (⟨0, 0, .read⟩ : BusTransaction).operation ≠ .none ∧
    r.inFlight = false ∧ r.handle = .cpu := ⟨_, rfl, by decide, rfl, rfl⟩

theorem witness_ExecuteRoutesToTheDestination_toMemory : ∃ r, findComponent State.reset.registry "Memory" = some r ∧ r.inFlight = false ∧ r.handle = .memory ∧
    (⟨0xFFFF, 0, .read⟩ : BusTransaction).operation = .read ∧ (⟨0xFFFF, 0, .write⟩ : BusTransaction).operation = .write := ⟨_, rfl, rfl, rfl, rfl, rfl⟩

theorem witness_BusRoundTrip : ∃ t, State.reset.MemoryReady ∧ State.reset.mem.wf = true ∧
    (∃ r, busExecute "CPU" "Memory" ⟨0xFFFF, 0xAB, .write⟩ State.reset = .next (r, t)) ∧ (0x0000 : Word) ≠ 0xFFFF := ⟨_, by decide, by decide, ⟨_, rfl⟩, by decide⟩

theorem witness_RegisterRejectsDuplicates : (∃ r, findComponent State.reset.registry "CPU" = some r) ∧ findComponent State.reset.registry "Video" = none ∧
    "CPU" ≠ "Video" := ⟨⟨_, rfl⟩, rfl, by decide⟩

theorem witness_LoadsWriteRegisterAndZN : ∃ s : State, s.MemoryReady := ⟨State.reset, by decide⟩

theorem witness_StoresWriteOneByte : ∃ t, State.reset.MemoryReady ∧ State.reset.mem.wf = true ∧ exec (.staAbs 0xFFFF) State.reset = .next t := ⟨_, by decide, by decide, rfl⟩

theorem witness_BinaryAdcSbc : State.reset.MemoryReady ∧ State.reset.p.d = false := by decide

theorem witness_DecimalAdcSbcOnValidOperands : ∃ s : State, s.MemoryReady ∧ s.p.d = true ∧ s.a = 0x99 ∧ IsBcd s.a ∧ IsBcd ((ReadOperand.immediate 0x99).value s) := ⟨{ State.reset with a := 0x99, p := Status.ofByte 0x28 }, by decide, by decide, rfl, ⟨by decide, by decide⟩, ⟨by decide, by decide⟩⟩

theorem witness_DecimalAdcSbcOnInvalidOperands : ∃ s : State, s.MemoryReady ∧ s.p.d = true ∧ ¬ (IsBcd s.a ∧ IsBcd ((ReadOperand.immediate 0x0A).value s)) := ⟨{ State.reset with p := Status.ofByte 0x28 }, by decide, by decide, fun h => absurd h.2.2 (by decide)⟩

theorem witness_LogicalWritesAAndZN : ∃ s : State, s.MemoryReady := ⟨State.reset, by decide⟩

theorem witness_BitTestsMemoryAgainstA : ∃ s : State, s.MemoryReady := ⟨State.reset, by decide⟩

theorem witness_IncDecMemory : ∃ t, State.reset.MemoryReady ∧ State.reset.mem.wf = true ∧ exec (.incAbx 0xFFFF) State.reset = .next t := ⟨_, by decide, by decide, rfl⟩

theorem witness_ShiftsOfMemory : ∃ t, State.reset.MemoryReady ∧ State.reset.mem.wf = true ∧ exec (.rorAbx 0xFFFF) State.reset = .next t := ⟨_, by decide, by decide, rfl⟩

theorem witness_ComparesWriteCZN : ∃ s : State, s.MemoryReady := ⟨State.reset, by decide⟩

theorem witness_JumpsSetPc : ∃ s : State, s.MemoryReady := ⟨State.reset, by decide⟩

theorem witness_JsrPushesReturnAddress : ∃ t, { State.reset with sp := 0x00 }.MemoryReady ∧ { State.reset with sp := 0x00 }.mem.wf = true ∧
    exec (.jsr 0x9000) { State.reset with sp := 0x00 } = .next t := ⟨_, by decide, by decide, rfl⟩

theorem witness_RtsReturnsPastTheCall : ∃ s : State, s.MemoryReady := ⟨State.reset, by decide⟩

theorem witness_StackInstructions : ∃ t u, State.reset.MemoryReady ∧ State.reset.mem.wf = true ∧ exec .pha State.reset = .next t ∧ exec .php State.reset = .next u := ⟨_, _, by decide, by decide, rfl, rfl⟩

theorem witness_BrkPushesAndHalts : ∃ t, State.reset.MemoryReady ∧ State.reset.mem.wf = true ∧ exec .brk State.reset = .next t ∧
    (0x0000 : Word) ≠ slot State.reset 0 ∧ (0x0000 : Word) ≠ slot State.reset 1 ∧ (0x0000 : Word) ≠ slot State.reset 2 := ⟨_, by decide, by decide, rfl, by decide, by decide, by decide⟩

theorem witness_RtiRestoresPAndPc : ∃ s : State, s.MemoryReady := ⟨State.reset, by decide⟩

theorem witness_TransfersCopyRegisters : State.reset.cfg.hasTransferGroup = true := rfl

/-- One state in which the premises of all six clauses hold. -/
theorem witness_FlagsChangeOnlyByTheirWriters : ∃ s t : State, exec .plp s = .next t ∧ t.p.c ≠ s.p.c ∧ t.p.z ≠ s.p.z ∧ t.p.n ≠ s.p.n ∧ t.p.i ≠ s.p.i ∧
    t.p.d ≠ s.p.d ∧ t.p.v ≠ s.p.v := ⟨placed 0x0200 [] [(0x01FE, 0xFF)], _, rfl, by decide, by decide, by decide, by decide, by decide, by decide⟩

theorem witness_RegistersChangeOnlyByTheirWriters : (∃ t, exec (.ldaImm 0x01) State.reset = .next t ∧ t.a ≠ State.reset.a) ∧
    (∃ t, exec .inx State.reset = .next t ∧ t.x ≠ State.reset.x) ∧ (∃ t, exec .iny State.reset = .next t ∧ t.y ≠ State.reset.y) ∧
    (∃ t, exec .pha State.reset = .next t ∧ t.sp ≠ State.reset.sp) ∧
    ∃ t, exec (.jmpAbs 0x1234) State.reset = .next t ∧ t.pc ≠ State.reset.pc := ⟨⟨_, rfl, by decide⟩, ⟨_, rfl, by decide⟩, ⟨_, rfl, by decide⟩, ⟨_, rfl, by decide⟩, _, rfl, by decide⟩

theorem witness_OnlyStoringInstructionsChangeMemory : (∃ t, exec .nop State.reset = .next t ∧ Instr.mnemonic .nop ∉ writesMem ∧ Instr.nop ≠ .brk) ∧
    ∃ t, exec .aslAcc State.reset = .next t ∧ Instr.operand .aslAcc = .accumulator := ⟨⟨_, rfl, by decide, by decide⟩, _, rfl, rfl⟩

/-- With `u` the state JSR left. -/
theorem witness_RtsUndoesJsr : ∃ t, State.reset.mem.wf = true ∧ exec (.jsr 0x9000) State.reset = .next t ∧ t.MemoryReady := ⟨_, by decide, rfl, by decide⟩

/-- With `u` the state the push left. -/
theorem witness_PullUndoesPush : ∃ t t', State.reset.mem.wf = true ∧ exec .php State.reset = .next t ∧ t.MemoryReady ∧ exec .pha State.reset = .next t' ∧
    t'.MemoryReady := ⟨_, _, by decide, rfl, by decide, rfl, by decide⟩

theorem witness_NibbleProceduresAreDecimal : IsBcd 0x99 ∧ IsBcd 0x00 := ⟨⟨by decide, by decide⟩, by decide, by decide⟩

/-- An instruction that wraps over the end of memory. -/
theorem witness_StepRunsTheDecodedInstruction : ∃ s : State, s.MemoryReady ∧ Executing s ∧ At (.jmpAbs 0x1234) s := ⟨placed 0xFFFE [0x4C, 0x34, 0x12] [], by decide, ⟨by decide, by decide, .inl (by decide)⟩, [], by decide⟩

theorem witness_HaltedIgnoresSteps : ({ State.reset with run := .halted .brk } : State).run.isHalted = true := rfl

theorem witness_IllegalOpcodeHaltsTheCore : ∃ s t : State, s.MemoryReady ∧ Executing s ∧ opcodeEntry s.cfg (s.mem.read s.pc) = none ∧ step s = .next t ∧ s.Scoped := ⟨placed 0xFFFF [0xFF] [], _, by decide, ⟨by decide, by decide, .inl (by decide)⟩, rfl, rfl, rfl⟩

theorem witness_InterruptPriority_nmi : ∃ s : State, s.MemoryReady ∧ s.run.isHalted = false ∧ s.nmiPending = true := ⟨{ State.reset with nmiPending := true, irqPending := true }, by decide⟩

theorem witness_InterruptPriority_irq : ∃ s : State, s.MemoryReady ∧ s.run.isHalted = false ∧ s.nmiPending = false ∧ s.irqPending = true ∧ s.p.i = false := ⟨{ State.reset with irqPending := true }, by decide⟩

theorem witness_InterruptPriority_masked : ∃ s : State, s.MemoryReady ∧ s.run.isHalted = false ∧ s.nmiPending = false ∧ s.irqPending = true ∧ s.p.i = true ∧ Executing s := ⟨{ State.reset with irqPending := true, p := Status.ofByte 0x24 }, by decide, by decide, by decide, by decide, by decide, by decide, by decide,
    .inr (by decide)⟩

theorem witness_InterruptPriority_none : ∃ s : State, s.MemoryReady ∧ s.run.isHalted = false ∧ s.nmiPending = false ∧ s.irqPending = false ∧ Executing s := ⟨State.reset, by decide, by decide, by decide, by decide, by decide, by decide, .inl (by decide)⟩

theorem witness_InterruptEntry : ∃ s : State, s.MemoryReady := ⟨State.reset, by decide⟩

/-- With `u` the state the entry left. -/
theorem witness_RtiResumesInterruptedProgram : ∃ t t', State.reset.mem.wf = true ∧ serviceInterrupt .nmi State.reset = .next t ∧ t.MemoryReady ∧
    serviceInterrupt .irq State.reset = .next t' ∧ t'.MemoryReady := ⟨_, _, by decide, rfl, by decide, rfl, by decide⟩

theorem witness_BranchCycles_bcc : ∃ s : State, s.MemoryReady ∧ Executing s ∧ At (.bcc 0x80) s ∧ s.p.toByte = 0x20 := ⟨{ placed 0x0000 [0x90, 0x80] [] with p := Status.ofByte 0x20 }, by decide, ⟨by decide, by decide, .inl (by decide)⟩, ⟨_, rfl⟩, by decide⟩

theorem witness_BranchCycles_bcs : ∃ s : State, s.MemoryReady ∧ Executing s ∧ At (.bcs 0x80) s ∧ s.p.toByte = 0x21 := ⟨{ placed 0x0000 [0xB0, 0x80] [] with p := Status.ofByte 0x21 }, by decide, ⟨by decide, by decide, .inl (by decide)⟩, ⟨_, rfl⟩, by decide⟩

theorem witness_BranchCycles_bne : ∃ s : State, s.MemoryReady ∧ Executing s ∧ At (.bne 0x80) s ∧ s.p.toByte = 0x20 := ⟨{ placed 0x0000 [0xD0, 0x80] [] with p := Status.ofByte 0x20 }, by decide, ⟨by decide, by decide, .inl (by decide)⟩, ⟨_, rfl⟩, by decide⟩

theorem witness_BranchCycles_beq : ∃ s : State, s.MemoryReady ∧ Executing s ∧ At (.beq 0x80) s ∧ s.p.toByte = 0x22 := ⟨{ placed 0x0000 [0xF0, 0x80] [] with p := Status.ofByte 0x22 }, by decide, ⟨by decide, by decide, .inl (by decide)⟩, ⟨_, rfl⟩, by decide⟩

theorem witness_BranchCycles_bpl : ∃ s : State, s.MemoryReady ∧ Executing s ∧ At (.bpl 0x80) s ∧ s.p.toByte = 0x20 := ⟨{ placed 0x0000 [0x10, 0x80] [] with p := Status.ofByte 0x20 }, by decide, ⟨by decide, by decide, .inl (by decide)⟩, ⟨_, rfl⟩, by decide⟩

theorem witness_BranchCycles_bmi : ∃ s : State, s.MemoryReady ∧ Executing s ∧ At (.bmi 0x80) s ∧ s.p.toByte = 0xA0 := ⟨{ placed 0x0000 [0x30, 0x80] [] with p := Status.ofByte 0xA0 }, by decide, ⟨by decide, by decide, .inl (by decide)⟩, ⟨_, rfl⟩, by decide⟩

theorem witness_BranchCycles_bvc : ∃ s : State, s.MemoryReady ∧ Executing s ∧ At (.bvc 0x80) s ∧ s.p.toByte = 0x20 := ⟨{ placed 0x0000 [0x50, 0x80] [] with p := Status.ofByte 0x20 }, by decide, ⟨by decide, by decide, .inl (by decide)⟩, ⟨_, rfl⟩, by decide⟩

theorem witness_BranchCycles_bvs : ∃ s : State, s.MemoryReady ∧ Executing s ∧ At (.bvs 0x80) s ∧ s.p.toByte = 0x60 := ⟨{ placed 0x0000 [0x70, 0x80] [] with p := Status.ofByte 0x60 }, by decide, ⟨by decide, by decide, .inl (by decide)⟩, ⟨_, rfl⟩, by decide⟩

theorem witness_LoadCycles_imm : ∃ s : State, s.MemoryReady ∧ Executing s ∧ At (.ldaImm 0x10) s := ⟨placed 0x0200 [0xA9, 0x10] [], by decide, ⟨by decide, by decide, .inl (by decide)⟩, _, rfl⟩

theorem witness_LoadCycles_zp : ∃ s : State, s.MemoryReady ∧ Executing s ∧ At (.ldaZp 0xFF) s := ⟨placed 0x0200 [0xA5, 0xFF] [], by decide, ⟨by decide, by decide, .inl (by decide)⟩, _, rfl⟩

theorem witness_LoadCycles_zpx : ∃ s : State, s.MemoryReady ∧ Executing s ∧ At (.ldaZpx 0xFF) s := ⟨placed 0x0200 [0xB5, 0xFF] [], by decide, ⟨by decide, by decide, .inl (by decide)⟩, _, rfl⟩

theorem witness_LoadCycles_abs : ∃ s : State, s.MemoryReady ∧ Executing s ∧ At (.ldaAbs 0xFFFF) s := ⟨placed 0x0200 [0xAD, 0xFF, 0xFF] [], by decide, ⟨by decide, by decide, .inl (by decide)⟩, _, rfl⟩

theorem witness_LoadCycles_abx : ∃ s : State, s.MemoryReady ∧ Executing s ∧ At (.ldaAbx 0xFFFF) s := ⟨placed 0x0200 [0xBD, 0xFF, 0xFF] [], by decide, ⟨by decide, by decide, .inl (by decide)⟩, _, rfl⟩

theorem witness_LoadCycles_aby : ∃ s : State, s.MemoryReady ∧ Executing s ∧ At (.ldaAby 0xFFFF) s := ⟨placed 0x0200 [0xB9, 0xFF, 0xFF] [], by decide, ⟨by decide, by decide, .inl (by decide)⟩, _, rfl⟩

theorem witness_LoadCycles_izx : ∃ s : State, s.MemoryReady ∧ Executing s ∧ At (.ldaIzx 0xFF) s := ⟨placed 0x0200 [0xA1, 0xFF] [], by decide, ⟨by decide, by decide, .inl (by decide)⟩, _, rfl⟩

theorem witness_LoadCycles_izy : ∃ s : State, s.MemoryReady ∧ Executing s ∧ At (.ldaIzy 0xFF) s := ⟨placed 0x0200 [0xB1, 0xFF] [], by decide, ⟨by decide, by decide, .inl (by decide)⟩, _, rfl⟩

theorem witness_BusAccessesComeInOrder : State.reset.Scoped := rfl

theorem witness_ResetRestoresPowerOnValues : ∃ s : State, s.MemoryReady := ⟨State.reset, by decide⟩

theorem witness_StepKeepsBreakAndPlatform : ∃ t, step (placed 0x0200 [0x28] []) = .next t := ⟨_, rfl⟩

theorem witness_OnlyBrkAndIllegalOpcodesHalt : ∃ t, State.reset.run.isHalted = false ∧ step State.reset = .next t ∧ t.run = .halted .brk := ⟨_, rfl, rfl, rfl⟩

theorem witness_RunReturnsHalted : ∃ r, State.reset.Inv ∧ Machine.run 1 State.reset = some r := ⟨_, by decide, rfl⟩

theorem witness_StepKeepsInvariant : ∃ t, State.reset.Inv ∧ step State.reset = .next t := ⟨_, by decide, rfl⟩

theorem witness_RunsNeverStop : ∃ s : State, s.MemoryReady := ⟨State.reset, by decide⟩

end Sys2Proof.Tests
end

section
/-! SUPPORT. The stack from both ends: what a pull finds after a push (R126 to R129), and the two-byte push and pull as one update of the start
state. The index addition of R120, R121 and R123 over the integers. -/

namespace Sys2Proof.Machine

open Sys2Proof.Claims

/-! ### The stack -/

/-- The address that push number `n` from here writes, counted from 0 (R126). -/
theorem slot_eq_stackAddress (s : State) (n : Byte) : slot s n = stackAddress (s.sp - n) := rfl

/-- The address that pull number `n` from here reads, counted from 1 (R127). -/
theorem slotUp_eq_stackAddress (s : State) (n : Byte) : slotUp s n = stackAddress (s.sp + n) := rfl

@[simp] theorem State.top_pushed {s : State} (hwf : s.mem.wf = true) (v : Byte) : (s.pushed v).top = v := by
  simp [State.top, Memory.read_write_same hwf]

/-- A push leaves every other stack slot as it was (R126). -/
theorem State.read_stackAddress_pushed_of_ne {s : State} (hwf : s.mem.wf = true) (v : Byte) {sp : Byte} (hne : sp ≠ s.sp) :
    (s.pushed v).mem.read (stackAddress sp) = s.mem.read (stackAddress sp) := by
  rw [State.pushed_mem, Memory.read_write_ne hwf v (stackAddress_inj.not.2 hne)]

/-- What lay on top of the stack lies under the byte pushed. -/
theorem State.top_pulled_pushed {s : State} (hwf : s.mem.wf = true) (v : Byte) : (s.pushed v).pulled.top = s.top := by
  have hsp : (s.pushed v).pulled.sp = s.sp := by simp
  have hne : s.sp + 1 ≠ s.sp := by bv_omega
  rw [State.top, State.top, hsp, State.pulled_mem, State.read_stackAddress_pushed_of_ne hwf v hne]

/-- Two pushes, high byte first, as one update of the start state (R128). -/
theorem State.pushed_pushed_eq (s : State) (w : Word) :
    (s.pushed (hiByte w)).pushed (loByte w) = { s with mem := pushedWord s w, sp := s.sp - 2 } := by
  have hsp : s.sp - 1 - 1 = s.sp - 2 := by bv_omega
  simp only [State.pushed, State.setMem, State.setSp, pushedWord, slot_eq_stackAddress, sub_zero, hsp, hiByte, loByte]

theorem add_one_add_one (b : Byte) : b + 1 + 1 = b + 2 := by
  bv_omega

/-- Two pulls as one update of the start state (R129). -/
theorem State.pulled_pulled_eq (s : State) : s.pulled.pulled = { s with sp := s.sp + 2 } := by
  simp only [State.pulled, State.setSp, add_one_add_one]

theorem State.top_eq_read_slotUp (s : State) : s.top = s.mem.read (slotUp s 1) := rfl

theorem State.top_pulled_eq_read_slotUp (s : State) : s.pulled.top = s.mem.read (slotUp s 2) := by
  rw [State.top, State.pulled_mem, State.pulled_sp, add_one_add_one, slotUp_eq_stackAddress]

/-- A pull right after a push answers the byte pushed and restores S (R127). -/
theorem pull8_after_push8 {v : Byte} {s t : State} (hwf : s.mem.wf = true) (h : push8 v s = .next t) :
    ∃ u, pull8 t = .next (v, u) ∧ u.sp = s.sp := by
  obtain ⟨hready, ht⟩ := push8_next h
  obtain ⟨u, hu, hua⟩ := pull8_answers (State.memoryReady_of_arch ht (hready.pushed v))
  have htop : t.top = v := by rw [State.top_of_arch ht, State.top_pushed hwf]
  have hsp : u.sp = s.sp := by simp [State.sp_of_arch hua, State.sp_of_arch ht]
  exact ⟨u, htop ▸ hu, hsp⟩

/-- A 16-bit pull right after a 16-bit push answers the value and restores S (R129). -/
theorem pull16_after_push16 {w : Word} {s t : State} (hwf : s.mem.wf = true) (h : push16 w s = .next t) :
    ∃ u, pull16 t = .next (w, u) ∧ u.sp = s.sp := by
  obtain ⟨hready, ht⟩ := push16_next h
  have hwf' := State.wf_pushed hwf (hiByte w)
  obtain ⟨u, hu, hua⟩ := pull16_answers (State.memoryReady_of_arch ht ((hready.pushed _).pushed _))
  have hlow : t.top = loByte w := by rw [State.top_of_arch ht, State.top_pushed hwf']
  have hpulled : t.pulled.arch = ((s.pushed (hiByte w)).pushed (loByte w)).pulled.arch := by
    rw [State.pulled_arch, ht, State.pulled_arch]
  have hhigh : t.pulled.top = hiByte w := by
    rw [State.top_of_arch hpulled, State.top_pulled_pushed hwf', State.top_pushed hwf]
  have hsp : u.sp = s.sp := by simp [State.sp_of_arch hua, State.sp_of_arch ht]
  rw [hlow, hhigh, ofBytes_hiByte_loByte] at hu
  exact ⟨u, hu, hsp⟩

/-! ### Indexed addresses -/

theorem zext16_toNat (b : Byte) : (zext16 b).toNat = b.toNat :=
  BitVec.toNat_setWidth_of_le (by decide)

theorem hiByte_bne_hiByte (w w' : Word) : (hiByte w != hiByte w') = decide (w.toNat / 256 ≠ w'.toNat / 256) := by
  rw [Bool.eq_iff_iff, bne_iff_ne, decide_eq_true_iff, ← hiByte_toNat, ← hiByte_toNat, ne_eq, ne_eq, BitVec.toNat_inj]

/-- An index addition and its page cross over the integers, modulo 65536 (R120, R121, R123). -/
theorem indexed_eq (base : Word) (index : Byte) :
    indexed base index = (BitVec.ofNat 16 (base.toNat + index.toNat),
      decide ((base.toNat + index.toNat) % 65536 / 256 ≠ base.toNat / 256)) := by
  have hsum : base + zext16 index = BitVec.ofNat 16 (base.toNat + index.toNat) := by
    apply BitVec.eq_of_toNat_eq
    rw [BitVec.toNat_add, BitVec.toNat_ofNat, zext16_toNat]
  rw [indexed, hiByte_bne_hiByte, hsum, BitVec.toNat_ofNat]

end Sys2Proof.Machine
end

section
/-! SUPPORT. The statements on the auxiliary procedures and the effective addresses (spec/40_step_and_addressing.md), settled. -/

namespace Sys2Proof.Claims

open Sys2Proof.Machine

/-- Settles O9: the bus write of the push is the one update, and canonical memory reads back cell by cell. -/
theorem pushWritesThenDecrements : Obligations.PushWritesThenDecrements := by
  intro v s hready
  refine ⟨push8_completes hready v, fun hwf t ht b => ?_⟩
  have hmem : t.mem = (s.pushed v).mem := State.mem_of_arch (push8_next ht).2
  rw [hmem, State.pushed_mem, Memory.read_write hwf]
  rfl

/-- Settles O10: the read is at the incremented S, where the push just before it wrote. -/
theorem pullIncrementsThenReads : Obligations.PullIncrementsThenReads := fun _ hready =>
  ⟨pull8_answers hready, fun hwf _ _ ht => pull8_after_push8 hwf ht⟩

/-- Settles O11: two pushes and two pulls as one update each; the second push leaves the slot of the first alone. -/
theorem wordPushAndPull : Obligations.WordPushAndPull := by
  intro s hready
  refine ⟨fun w => ?_, ?_, fun hwf w t ht => pull16_after_push16 hwf ht⟩
  · rw [← State.pushed_pushed_eq]
    exact push16_completes hready w
  · rw [← State.pulled_pulled_eq, ← State.top_pulled_eq_read_slotUp, ← State.top_eq_read_slotUp]
    exact pull16_answers hready

/-- Settles O12: the resolver answers the address of the operand; the three indexed categories add over the integers by `indexed_eq`. -/
theorem effectiveAddresses : Obligations.EffectiveAddresses := by
  intro s hready
  have answers := effectiveAddress_answers hready
  refine ⟨fun z => answers (.zeroPage z), fun z => answers (.zeroPageX z), fun z => answers (.zeroPageY z),
    fun w => answers (.absolute w), fun w => ?_, fun w => ?_, fun z => answers (.indirectX z), fun z => ?_⟩
  · rw [← indexed_eq]
    exact answers (.absoluteX w)
  · rw [← indexed_eq]
    exact answers (.absoluteY w)
  · dsimp only
    rw [← indexed_eq]
    exact answers (.indirectY z)

/-- Settles O8: SetZN rewrites P alone, and the sign bit of a byte is its bit 7. -/
theorem setZNWritesZAndNOnly : Obligations.SetZNWritesZAndNOnly := by
  intro v s
  have hmsb : v.msb = v.getLsbD 7 := BitVec.msb_eq_getLsbD_last v
  rw [State.setZN, Status.setZN, hmsb, State.setP]

end Sys2Proof.Claims
end

section
/-! SUPPORT. The Opcode Table from both sides (spec/30_encoding.md R90 to R100): every instruction's opcode selects the row that makes it, and every
row makes the instructions of its opcode. -/

namespace Sys2Proof

/-- The row of R98 at an opcode byte, transfers included. -/
def rowAt (op : Byte) : Option OpcodeEntry := findRow (opcodeRow (op.toNat / 16)) op

theorem opcodeEntry_eq_some_iff {cfg : Config} {op : Byte} {e : OpcodeEntry} :
    opcodeEntry cfg op = some e ↔ rowAt op = some e ∧ (e.mnemonic.isTransfer = true → cfg.hasTransferGroup = true) := by
  unfold opcodeEntry
  rw [← rowAt]
  cases rowAt op with
  | none => simp
  | some r => grind

theorem opcodeEntry_eq_none_iff {cfg : Config} {op : Byte} :
    opcodeEntry cfg op = none ↔
      rowAt op = none ∨ (cfg.hasTransferGroup = false ∧ (rowAt op).any (·.mnemonic.isTransfer) = true) := by
  unfold opcodeEntry
  rw [← rowAt]
  cases rowAt op with
  | none => simp
  | some r => cases cfg.hasTransferGroup <;> simp

/-- An instruction is a transfer exactly when its operation is (R96). -/
theorem Instr.isTransfer_mnemonic (i : Instr) : i.mnemonic.isTransfer = i.isTransfer := by
  cases i <;> rfl

theorem Instr.wellFormed_iff {cfg : Config} {i : Instr} :
    i.wellFormed cfg = true ↔ (i.mnemonic.isTransfer = true → cfg.hasTransferGroup = true) := by
  rw [Instr.isTransfer_mnemonic, Instr.wellFormed]
  cases i.isTransfer <;> simp

/-! ### From the instruction to its row -/

/-- The row at the instruction's opcode has its operation and makes it from its operand bytes (R93, R94). -/
theorem Instr.rowAt_opcode (i : Instr) :
    ∃ e, rowAt i.opcode = some e ∧ e.mnemonic = i.mnemonic ∧
      ∀ rest, e.form.assemble (i.operand.bytes ++ rest) = .ok i rest := by
  cases i <;> dsimp only [Instr.opcode] <;> refine ⟨_, rfl, rfl, fun rest => ?_⟩ <;>
    simp [Form.assemble, Instr.operand, ResolvedOperand.bytes, Machine.ofBytes_hiByte_loByte]

/-! ### From the row to its instructions -/

/-- The instruction a form makes of a 16-bit operand, of which a one-byte form uses the low half. -/
def Form.withOperand (f : Form) (w : Word) : Instr :=
  match f with
  | .op0 i => i
  | .op1 g => g (loByte w)
  | .op2 g => g w

theorem Form.build_eq_withOperand (f : Form) (b1 b2 : Byte) : f.build b1 b2 = f.withOperand (ofBytes b2 b1) := by
  cases f <;> simp [Form.build, Form.withOperand]

/-- A form makes, of every operand, the instruction of this opcode, operation and category with that operand's bytes. -/
def Form.Sound (f : Form) (op : Byte) (m : Mnemonic) (md : Mode) : Prop :=
  ∀ w, ((f.withOperand w).opcode, (f.withOperand w).mnemonic, (f.withOperand w).operand.mode, (f.withOperand w).operand.bytes) =
    (op, m, md, [loByte w, hiByte w].take f.size)

/-- Every row of R98 makes the instructions to which R99 gives its opcode byte. -/
theorem sound_of_mem_opcodeRow (n : Nat) : ∀ row ∈ opcodeRow n, row.2.form.Sound row.1 row.2.mnemonic row.2.mode := by
  unfold opcodeRow
  split <;> repeat' refine List.forall_mem_cons.2 ⟨fun _ => rfl, ?_⟩
  all_goals exact List.forall_mem_nil _

theorem findRow_mem {rows : List (Byte × OpcodeEntry)} {op : Byte} {e : OpcodeEntry} (h : findRow rows op = some e) :
    (op, e) ∈ rows := by
  induction rows with
  | nil => cases h
  | cons row rows ih =>
    obtain ⟨b, r⟩ := row
    unfold findRow at h
    split at h
    · next hb =>
      cases h
      exact hb ▸ List.mem_cons_self
    · exact List.mem_cons_of_mem _ (ih h)

theorem sound_of_rowAt {op : Byte} {e : OpcodeEntry} (h : rowAt op = some e) : e.form.Sound op e.mnemonic e.mode :=
  sound_of_mem_opcodeRow _ _ (findRow_mem h)

/-- A category's byte count is that of every operand of the category (R92, R94). -/
theorem ResolvedOperand.length_bytes (o : ResolvedOperand) : o.bytes.length = o.mode.operandBytes := by
  cases o <;> rfl

section
variable {f : Form} {op : Byte} {m : Mnemonic} {md : Mode}

theorem Form.Sound.build (h : f.Sound op m md) (b1 b2 : Byte) : (f.build b1 b2).opcode = op ∧
    (f.build b1 b2).mnemonic = m ∧ (f.build b1 b2).operand.mode = md ∧
    (f.build b1 b2).operand.bytes = [b1, b2].take f.size := by
  rw [Form.build_eq_withOperand]
  simpa using h (ofBytes b2 b1)

theorem Form.Sound.size_eq (h : f.Sound op m md) : f.size = md.operandBytes := by
  obtain ⟨-, -, hmode, hbytes⟩ := h.build 0 0
  rw [← hmode, ← ResolvedOperand.length_bytes, hbytes]
  cases f <;> rfl

end

/-- What an assembled instruction is, and which bytes it was made of. -/
theorem Form.assemble_eq_ok {f : Form} {bs : List Byte} {i : Instr} {rest : List Byte} (h : f.assemble bs = .ok i rest) :
    ∃ b1 b2, i = f.build b1 b2 ∧ bs = [b1, b2].take f.size ++ rest := by
  match f, bs, h with
  | .op0 _, _, rfl => exact ⟨0, 0, rfl, rfl⟩
  | .op1 _, b :: _, rfl => exact ⟨b, 0, rfl, rfl⟩
  | .op2 _, b1 :: b2 :: _, rfl => exact ⟨b1, b2, rfl, rfl⟩

/-- Enough bytes are assembled (log 12). -/
theorem Form.assemble_of_size_le {f : Form} {bs : List Byte} (h : f.size ≤ bs.length) :
    ∃ i, f.assemble bs = .ok i (bs.drop f.size) := by
  match f, bs, h with
  | .op0 i, _, _ => exact ⟨i, rfl⟩
  | .op1 g, b :: _, _ => exact ⟨g b, rfl⟩
  | .op2 g, b1 :: b2 :: _, _ => exact ⟨g (ofBytes b2 b1), rfl⟩

/-- Everything a successful decoding says (R90, R93). -/
theorem decode_eq_ok {cfg : Config} {bs : List Byte} {i : Instr} {rest : List Byte} (h : decode cfg bs = .ok i rest) :
    ∃ e, opcodeEntry cfg i.opcode = some e ∧ e.mnemonic = i.mnemonic ∧ e.mode = i.operand.mode ∧
      e.form.size = i.operand.mode.operandBytes ∧ bs = encode i ++ rest ∧
      ∃ b1 b2, i = e.form.build b1 b2 := by
  match bs with
  | [] => cases h
  | op :: tail =>
    cases he : opcodeEntry cfg op with
    | none => simp [decode, he] at h
    | some e =>
      simp only [decode, he] at h
      obtain ⟨b1, b2, rfl, rfl⟩ := Form.assemble_eq_ok h
      have hs := sound_of_rowAt (opcodeEntry_eq_some_iff.1 he).1
      obtain ⟨ho, hm, hmode, hb⟩ := hs.build b1 b2
      refine ⟨e, ho ▸ he, hm.symm, hmode.symm, hmode ▸ hs.size_eq, ?_, b1, b2, rfl⟩
      rw [encode, ho, hb, List.cons_append]

end Sys2Proof
end

section
/-! SUPPORT. The statements on the encoding (spec/30_encoding.md), settled. -/

namespace Sys2Proof.Claims

open Sys2Proof.Machine

/-- Settles O2: the opcode of R99 selects the row of R98 that makes the instruction, and the row is populated where the instruction is well
formed. -/
theorem decodeOfEncodeGivesInstruction : Obligations.DecodeOfEncodeGivesInstruction := by
  intro cfg i rest hwf
  obtain ⟨e, hrow, hm, hasm⟩ := i.rowAt_opcode
  have he : opcodeEntry cfg i.opcode = some e := opcodeEntry_eq_some_iff.2 ⟨hrow, hm ▸ Instr.wellFormed_iff.1 hwf⟩
  rw [encode, List.cons_append, decode, he]
  exact hasm rest

/-- Settles O3: every row makes the instructions of its own opcode, with the operand bytes it was given. -/
theorem decodedBytesAreTheEncoding : Obligations.DecodedBytesAreTheEncoding := by
  intro cfg bs i rest h
  obtain ⟨e, he, hm, -, -, hbs, -⟩ := decode_eq_ok h
  exact ⟨hbs, Instr.wellFormed_iff.2 (hm ▸ (opcodeEntry_eq_some_iff.1 he).2)⟩

/-- Settles O4: the row's form takes as many bytes as its category has. -/
theorem entrySizesTheInstruction : Obligations.EntrySizesTheInstruction := by
  intro cfg op bs e he hlen
  have hs := sound_of_rowAt (opcodeEntry_eq_some_iff.1 he).1
  rw [← hs.size_eq] at hlen ⊢
  obtain ⟨i, hi⟩ := Form.assemble_of_size_le hlen
  obtain ⟨b1, b2, rfl, hbs⟩ := Form.assemble_eq_ok hi
  obtain ⟨-, hm, hmode, hb⟩ := hs.build b1 b2
  refine ⟨_, by rw [decode, he]; exact hi, hmode, hm, ?_⟩
  rw [hb]
  exact List.append_cancel_right (hbs.symm.trans (List.take_append_drop _ bs).symm)

theorem rowAt_eq_none_iff : ∀ op : Byte, rowAt op = none ↔ op ∈ illegalBytes := by
  decide +kernel

theorem rowAt_isTransfer_iff : ∀ op : Byte, (rowAt op).any (·.mnemonic.isTransfer) = true ↔ op ∈ transferBytes := by
  decide +kernel

/-- Settles O5: the bytes without a row are those R100 lists, and the transfers' rows are at the six bytes. -/
theorem illegalOpcodesAreThoseListed : Obligations.IllegalOpcodesAreThoseListed := by
  intro cfg op
  rw [opcodeEntry_eq_none_iff, rowAt_eq_none_iff, rowAt_isTransfer_iff]

/-- Settles O1: by evaluation of each of the eight words. -/
theorem wordsOfTheTableDecode : Obligations.WordsOfTheTableDecode := by
  refine ⟨?_, ?_, ?_, ?_, ?_, ?_, ?_, ?_⟩ <;> decide

end Sys2Proof.Claims
end

section
/-! SUPPORT. Every instruction is one of 25 shared meanings, chosen by its operation and its operand (spec/40_step_and_addressing.md R113). A meaning
has one effect on the state, so what holds of all instructions is proved once for each meaning. -/

namespace Sys2Proof.Machine

/-- A flag of P that has storage (R25). -/
inductive Flag
  | c | z | i | d | b | v | n
  deriving DecidableEq

/-- Read a flag. -/
def Status.get (p : Status) : Flag → Bool
  | .c => p.c
  | .z => p.z
  | .i => p.i
  | .d => p.d
  | .b => p.b
  | .v => p.v
  | .n => p.n

/-- Write a flag. -/
def Status.set (p : Status) (f : Flag) (on : Bool) : Status :=
  match f with
  | .c => { p with c := on }
  | .z => { p with z := on }
  | .i => { p with i := on }
  | .d => { p with d := on }
  | .b => { p with b := on }
  | .v => { p with v := on }
  | .n => { p with n := on }

/-- What an instruction does, without its name: the shared operation and its operand. -/
inductive Meaning
  | load (r : Register) (o : ReadOperand)
  | store (r : Register) (m : MemOperand)
  | add (o : ReadOperand)
  | subtract (o : ReadOperand)
  | adjustMemory (delta : Byte) (m : MemOperand)
  | adjustRegister (delta : Byte) (r : Register)
  | logical (f : Byte → Byte → Byte) (o : ReadOperand)
  | bitTest (m : MemOperand)
  | shiftA (f : Byte → Bool → Byte × Bool)
  | shiftMemory (f : Byte → Bool → Byte × Bool) (m : MemOperand)
  | compare (r : Register) (o : ReadOperand)
  | branch (f : Flag) (expected : Bool) (off : Byte)
  | jump (w : Word)
  | jumpIndirect (w : Word)
  | call (w : Word)
  | ret
  | push (v : State → Byte)
  | pullA
  | pullP
  | setFlag (f : Flag) (on : Bool)
  | breakTrap
  | interruptReturn
  | nothing
  | transfer (source target : Register)
  | setStack

/-- The computation of a meaning. -/
def Meaning.run (m : Meaning) (s : State) : Host.Outcome State Fault Refusal :=
  match m with
  | .load r o => Machine.load r o s
  | .store r m => Machine.store r m s
  | .add o => addWithCarry o s
  | .subtract o => subtractWithCarry o s
  | .adjustMemory delta m => Machine.adjustMemory delta m s
  | .adjustRegister delta r => Machine.adjustRegister delta r s
  | .logical f o => Machine.logical f o s
  | .bitTest m => Machine.bitTest (.mem m) s
  | .shiftA f => Machine.shiftA f s
  | .shiftMemory f m => Machine.shiftMemory f m s
  | .compare r o => compareWith r o s
  | .branch f expected off => Machine.branch (s.p.get f) expected off s
  | .jump w => execJmpAbs w s
  | .jumpIndirect w => execJmpInd w s
  | .call w => execJsr w s
  | .ret => execRts s
  | .push v => andThen (push8 (v s) s) (complete .plain)
  | .pullA => execPla s
  | .pullP => execPlp s
  | .setFlag f on => complete .plain (s.setP (s.p.set f on))
  | .breakTrap => execBrk s
  | .interruptReturn => execRti s
  | .nothing => complete .plain s
  | .transfer source target => Machine.transfer source target s
  | .setStack => complete .plain (s.setSp s.x)

/-- The state a meaning leaves. -/
def Meaning.effect (m : Meaning) (s : State) : State :=
  match m with
  | .load r o => (s.setReg r (o.value s)).setZN (o.value s)
  | .store r m => s.setMem (s.mem.write (m.address s) (s.reg r))
  | .add o => s.addToA (o.value s)
  | .subtract o => s.subFromA (o.value s)
  | .adjustMemory delta m =>
    (s.setMem (s.mem.write (m.address s) (s.mem.read (m.address s) + delta))).setP
      (s.p.setZN (s.mem.read (m.address s) + delta))
  | .adjustRegister delta r => (s.setReg r (s.reg r + delta)).setZN (s.reg r + delta)
  | .logical f o => (s.setA (f s.a (o.value s))).setZN (f s.a (o.value s))
  | .bitTest m => s.setP ((s.p.bitZ s.a (s.mem.read (m.address s))).bitNV (s.mem.read (m.address s)))
  | .shiftA f => (s.setA (f s.a s.p.c).1).setP (s.p.shifted (f s.a s.p.c).1 (f s.a s.p.c).2)
  | .shiftMemory f m =>
    (s.setMem (s.mem.write (m.address s) (f (s.mem.read (m.address s)) s.p.c).1)).setP
      (s.p.shifted (f (s.mem.read (m.address s)) s.p.c).1 (f (s.mem.read (m.address s)) s.p.c).2)
  | .compare r o => s.setP (s.p.compare (s.reg r) (o.value s))
  | .branch f expected off => if s.p.get f = expected then s.setPc (relativeTarget off s) else s
  | .jump w => s.setPc w
  | .jumpIndirect w => s.setPc (s.word w)
  | .call w => ((s.pushed (hiByte (s.pc - 1))).pushed (loByte (s.pc - 1))).setPc w
  | .ret => s.pulled.pulled.setPc (ofBytes s.pulled.top s.top + 1)
  | .push v => s.pushed (v s)
  | .pullA => (s.pulled.setA s.top).setZN s.top
  | .pullP => s.pulled.setP (s.p.restore s.top)
  | .setFlag f on => s.setP (s.p.set f on)
  | .breakTrap => s.broken
  | .interruptReturn => s.returned
  | .nothing => s
  | .transfer source target => (s.setReg target (s.reg source)).setZN (s.reg source)
  | .setStack => s.setSp s.x

/-! ### Completion -/

theorem branch_completes (flag expected : Bool) (off : Byte) (s : State) :
    CompletesAs (branch flag expected off s) (if flag = expected then s.setPc (relativeTarget off s) else s) := by
  unfold branch
  split <;> exact complete_completes _ rfl

theorem complete_next_arch {o : ExecOutcome} {s t : State} (h : complete o s = .next t) : t.arch = s.arch := by
  rw [complete_next h, State.setOutcome_arch]

/-- With Memory on the bus every meaning completes, as its effect. -/
theorem Meaning.completes (m : Meaning) {s : State} (h : s.MemoryReady) : CompletesAs (m.run s) (m.effect s) := by
  cases m with
  | load r o => exact load_completes h r o
  | store r m => exact store_completes h r m
  | add o => exact addWithCarry_completes h o
  | subtract o => exact subtractWithCarry_completes h o
  | adjustMemory delta m => exact adjustMemory_completes h delta m
  | adjustRegister delta r => exact complete_completes _ rfl
  | logical f o => exact logical_completes h f o
  | bitTest m => exact bitTest_completes h m
  | shiftA f => exact complete_completes _ rfl
  | shiftMemory f m => exact shiftMemory_completes h f m
  | compare r o => exact compareWith_completes h r o
  | branch f expected off =>
    exact branch_completes _ expected off s
  | jump w => exact complete_completes _ rfl
  | jumpIndirect w => exact (read16_answers h w).andThen fun t ht => complete_completes _ (by rw [State.setPc_arch, ht]; rfl)
  | call w => exact (push16_completes h _).andThen fun t ht => complete_completes _ (by rw [State.setPc_arch, ht]; rfl)
  | ret => exact (pull16_answers h).andThen fun t ht => complete_completes _ (by rw [State.setPc_arch, ht]; rfl)
  | push v => exact (push8_completes h _).andThen fun t ht => complete_completes _ ht
  | pullA => exact (pull8_answers h).andThen fun t ht => complete_completes _ (State.setReg_setZN_of_arch ht .a _)
  | pullP =>
    refine (pull8_answers h).andThen fun t ht => complete_completes _ ?_
    rw [State.setP_arch, ht, State.p_of_arch ht]
    rfl
  | setFlag f on => exact complete_completes _ rfl
  | breakTrap => exact (takeBreak_completes h).andThen fun t ht => complete_completes _ ht
  | interruptReturn => exact (returnFromInterrupt_completes h).andThen fun t ht => complete_completes _ ht
  | nothing => exact complete_completes _ rfl
  | transfer source target => exact complete_completes _ rfl
  | setStack => exact complete_completes _ rfl

/-- A meaning that has a next state leaves its effect, whether it needed Memory or not. -/
theorem Meaning.next {m : Meaning} {s t : State} (h : m.run s = .next t) : t.arch = (m.effect s).arch := by
  have of_ready (hready : s.MemoryReady) : t.arch = (m.effect s).arch := (m.completes hready).eq h
  cases m with
  | load r o => exact load_next h
  | store r m => exact store_next h
  | add o => exact addWithCarry_next h
  | subtract o => exact subtractWithCarry_next h
  | adjustMemory delta m => exact adjustMemory_next h
  | adjustRegister delta r => exact adjustRegister_next h
  | logical f o => exact logical_next h
  | bitTest m => exact bitTest_next h
  | shiftA f => exact shiftA_next h
  | shiftMemory f m => exact shiftMemory_next h
  | compare r o => exact compareWith_next h
  | branch f expected off => exact branch_next h
  | jumpIndirect w =>
    obtain ⟨_, hu, _⟩ := andThen_eq_next.1 h
    exact of_ready (memoryReady_of_read16 hu)
  | call w =>
    obtain ⟨_, hu, _⟩ := andThen_eq_next.1 h
    exact of_ready (memoryReady_of_push16 hu)
  | ret =>
    obtain ⟨_, hu, _⟩ := andThen_eq_next.1 h
    exact of_ready (memoryReady_of_pull16 hu)
  | push v =>
    obtain ⟨_, hu, _⟩ := andThen_eq_next.1 h
    exact of_ready (memoryReady_of_push8 hu)
  | pullA =>
    obtain ⟨_, hu, _⟩ := andThen_eq_next.1 h
    exact of_ready (memoryReady_of_pull8 hu)
  | pullP =>
    obtain ⟨_, hu, _⟩ := andThen_eq_next.1 h
    exact of_ready (memoryReady_of_pull8 hu)
  | breakTrap =>
    obtain ⟨_, hu, _⟩ := andThen_eq_next.1 h
    exact of_ready (memoryReady_of_takeBreak hu)
  | interruptReturn =>
    obtain ⟨_, hu, _⟩ := andThen_eq_next.1 h
    exact of_ready (memoryReady_of_returnFromInterrupt hu)
  | transfer source target => exact transfer_next h
  | jump w => exact complete_next_arch h
  | setFlag f on => exact complete_next_arch h
  | nothing => exact complete_next_arch h
  | setStack => exact complete_next_arch h

end Sys2Proof.Machine

/-! ### The meaning of an instruction -/

namespace Sys2Proof

open Sys2Proof.Machine

/-- The operand in memory, of the eight categories that have one; it is used of no other. -/
def ResolvedOperand.inMemory : ResolvedOperand → MemOperand
  | .zeroPage z => .zeroPage z
  | .zeroPageX z => .zeroPageX z
  | .zeroPageY z => .zeroPageY z
  | .absolute w => .absolute w
  | .absoluteX w => .absoluteX w
  | .absoluteY w => .absoluteY w
  | .indirectX z => .indirectX z
  | .indirectY z => .indirectY z
  | .implied | .accumulator | .immediate _ | .indirect _ | .relative _ => .zeroPage 0

/-- The operand that is read: the immediate byte or one in memory. -/
def ResolvedOperand.readable : ResolvedOperand → ReadOperand
  | .immediate v => .immediate v
  | o => .mem o.inMemory

/-- The offset of a branch; it is used of the Relative category alone. -/
def ResolvedOperand.offset : ResolvedOperand → Byte
  | .relative off => off
  | _ => 0

/-- The target of a jump or call; it is used of the Absolute category alone. -/
def ResolvedOperand.target : ResolvedOperand → Word
  | .absolute w => w
  | _ => 0

/-- A shift or rotate, of A in the Accumulator category and of memory in the others (spec/45_shift_rotate.md). -/
def Machine.Meaning.shift (f : Byte → Bool → Byte × Bool) : ResolvedOperand → Meaning
  | .accumulator => .shiftA f
  | o => .shiftMemory f o.inMemory

/-- JMP by its category (R209). -/
def Machine.Meaning.jumpTo : ResolvedOperand → Meaning
  | .indirect w => .jumpIndirect w
  | o => .jump o.target

/-- The meaning of an operation on an operand. -/
def Mnemonic.meaning (m : Mnemonic) (o : ResolvedOperand) : Meaning :=
  match m with
  | .lda => .load .a o.readable
  | .ldx => .load .x o.readable
  | .ldy => .load .y o.readable
  | .sta => .store .a o.inMemory
  | .stx => .store .x o.inMemory
  | .sty => .store .y o.inMemory
  | .adc => .add o.readable
  | .sbc => .subtract o.readable
  | .inc => .adjustMemory 1 o.inMemory
  | .dec => .adjustMemory (-1) o.inMemory
  | .inx => .adjustRegister 1 .x
  | .iny => .adjustRegister 1 .y
  | .dex => .adjustRegister (-1) .x
  | .dey => .adjustRegister (-1) .y
  | .and => .logical (fun a m => a &&& m) o.readable
  | .ora => .logical (fun a m => a ||| m) o.readable
  | .eor => .logical (fun a m => a ^^^ m) o.readable
  | .bit => .bitTest o.inMemory
  | .asl => .shift aslByte o
  | .lsr => .shift lsrByte o
  | .rol => .shift rolByte o
  | .ror => .shift rorByte o
  | .cmp => .compare .a o.readable
  | .cpx => .compare .x o.readable
  | .cpy => .compare .y o.readable
  | .bcc => .branch .c false o.offset
  | .bcs => .branch .c true o.offset
  | .beq => .branch .z true o.offset
  | .bne => .branch .z false o.offset
  | .bmi => .branch .n true o.offset
  | .bpl => .branch .n false o.offset
  | .bvc => .branch .v false o.offset
  | .bvs => .branch .v true o.offset
  | .jmp => .jumpTo o
  | .jsr => .call o.target
  | .rts => .ret
  | .pha => .push State.a
  | .pla => .pullA
  | .php => .push fun s => s.p.toByte ||| 0x30
  | .plp => .pullP
  | .clc => .setFlag .c false
  | .sec => .setFlag .c true
  | .cli => .setFlag .i false
  | .sei => .setFlag .i true
  | .cld => .setFlag .d false
  | .sed => .setFlag .d true
  | .clv => .setFlag .v false
  | .brk => .breakTrap
  | .rti => .interruptReturn
  | .nop => .nothing
  | .tax => .transfer .a .x
  | .tay => .transfer .a .y
  | .txa => .transfer .x .a
  | .tya => .transfer .y .a
  | .tsx => .transfer .s .x
  | .txs => .setStack

/-- The meaning of an instruction. -/
def Instr.meaning (i : Instr) : Meaning := i.mnemonic.meaning i.operand

namespace Machine

/-- The operation and the operand decide what an instruction does: each arm of the dispatch runs its meaning. -/
theorem exec_eq_run (i : Instr) (s : State) : exec i s = i.meaning.run s := by
  cases i <;> rfl

theorem exec_completes (i : Instr) {s : State} (h : s.MemoryReady) : CompletesAs (exec i s) (i.meaning.effect s) :=
  exec_eq_run i s ▸ i.meaning.completes h

theorem exec_next {i : Instr} {s t : State} (h : exec i s = .next t) : t.arch = (i.meaning.effect s).arch :=
  Meaning.next (exec_eq_run i s ▸ h)

end Machine

end Sys2Proof
end

section
/-! SUPPORT. What each meaning may write: flags, registers, PC, memory (spec/10_state.md R20 to R28). Everything else is left unchanged. -/

namespace Sys2Proof.Machine

/-- The flags a meaning may write (R28). -/
def Meaning.flags : Meaning → List Flag
  | .add _ | .subtract _ => [.c, .z, .v, .n]
  | .shiftA _ | .shiftMemory _ _ | .compare _ _ => [.c, .z, .n]
  | .load _ _ | .adjustMemory _ _ | .adjustRegister _ _ | .logical _ _ | .pullA | .transfer _ _ => [.z, .n]
  | .bitTest _ => [.z, .v, .n]
  | .pullP | .interruptReturn => [.c, .z, .i, .d, .v, .n]
  | .breakTrap => [.i]
  | .setFlag f _ => [f]
  | .store _ _ | .branch _ _ _ | .jump _ | .jumpIndirect _ | .call _ | .ret | .push _ | .nothing | .setStack => []

/-- The 8-bit registers a meaning may write (R20 to R23). -/
def Meaning.registers : Meaning → List Register
  | .load r _ | .adjustRegister _ r | .transfer _ r => [r]
  | .add _ | .subtract _ | .logical _ _ | .shiftA _ => [.a]
  | .pullA => [.a, .s]
  | .call _ | .ret | .push _ | .pullP | .breakTrap | .interruptReturn | .setStack => [.s]
  | .store _ _ | .adjustMemory _ _ | .bitTest _ | .shiftMemory _ _ | .compare _ _ | .branch _ _ _ | .jump _ | .jumpIndirect _
  | .setFlag _ _ | .nothing => []

/-- Whether a meaning may write PC (R24). -/
def Meaning.writesPc : Meaning → Bool
  | .branch _ _ _ | .jump _ | .jumpIndirect _ | .call _ | .ret | .interruptReturn => true
  | .load _ _ | .store _ _ | .add _ | .subtract _ | .adjustMemory _ _ | .adjustRegister _ _ | .logical _ _ | .bitTest _ | .shiftA _
  | .shiftMemory _ _ | .compare _ _ | .push _ | .pullA | .pullP | .setFlag _ _ | .breakTrap | .nothing | .transfer _ _
  | .setStack => false

/-- Whether a meaning may write memory (R33). -/
def Meaning.writesMem : Meaning → Bool
  | .store _ _ | .adjustMemory _ _ | .shiftMemory _ _ | .call _ | .push _ | .breakTrap => true
  | .load _ _ | .add _ | .subtract _ | .adjustRegister _ _ | .logical _ _ | .bitTest _ | .shiftA _ | .compare _ _ | .branch _ _ _
  | .jump _ | .jumpIndirect _ | .ret | .pullA | .pullP | .setFlag _ _ | .interruptReturn | .nothing | .transfer _ _
  | .setStack => false

/-! ### The updates -/

/-- The part of the state that no instruction writes: registry, latches, debug bit, parameters (R30 to R32, R34). -/
def State.platform (s : State) : List Registration × Bool × Bool × Bool × Config :=
  (s.registry, s.nmiPending, s.irqPending, s.debugEnabled, s.cfg)

theorem State.platform_of_arch {s t : State} (h : s.arch = t.arch) : s.platform = t.platform :=
  (congrArg State.platform h : s.arch.platform = t.arch.platform)

@[simp] theorem State.setReg_p (s : State) (r : Register) (v : Byte) : (s.setReg r v).p = s.p := by cases r <;> rfl
@[simp] theorem State.setReg_pc (s : State) (r : Register) (v : Byte) : (s.setReg r v).pc = s.pc := by cases r <;> rfl
@[simp] theorem State.setReg_run (s : State) (r : Register) (v : Byte) : (s.setReg r v).run = s.run := by cases r <;> rfl
@[simp] theorem State.setReg_mem (s : State) (r : Register) (v : Byte) : (s.setReg r v).mem = s.mem := by cases r <;> rfl
@[simp] theorem State.setReg_platform (s : State) (r : Register) (v : Byte) : (s.setReg r v).platform = s.platform := by
  cases r <;> rfl

@[simp] theorem State.setZN_p (s : State) (v : Byte) : (s.setZN v).p = s.p.setZN v := rfl
@[simp] theorem State.setZN_reg (s : State) (v : Byte) (r : Register) : (s.setZN v).reg r = s.reg r := by cases r <;> rfl
@[simp] theorem State.setP_reg (s : State) (p : Status) (r : Register) : (s.setP p).reg r = s.reg r := by cases r <;> rfl
@[simp] theorem State.setPc_reg (s : State) (w : Word) (r : Register) : (s.setPc w).reg r = s.reg r := by cases r <;> rfl
@[simp] theorem State.setMem_reg (s : State) (m : Memory) (r : Register) : (s.setMem m).reg r = s.reg r := by cases r <;> rfl


/-! ### The flags each status update may write -/

theorem Status.get_setZN (p : Status) (v : Byte) (f : Flag) : f ∉ [.z, .n] → (p.setZN v).get f = p.get f := by
  cases f <;> simp [Status.get, Status.setZN]

theorem Status.get_binary (p : Status) (res : BinaryResult) (f : Flag) :
    f ∉ [.c, .z, .v, .n] → (p.binary res).get f = p.get f := by
  cases f <;> simp [Status.get, Status.binary, Status.setZN]

theorem Status.get_decimal (p : Status) (res : DecimalResult) (f : Flag) :
    f ∉ [.c, .z, .v, .n] → (p.decimal res).get f = p.get f := by
  cases f <;> simp [Status.get, Status.decimal]

theorem Status.get_shifted (p : Status) (r : Byte) (c : Bool) (f : Flag) :
    f ∉ [.c, .z, .n] → (p.shifted r c).get f = p.get f := by
  cases f <;> simp [Status.get, Status.shifted, Status.setZN]

theorem Status.get_compare (p : Status) (reg m : Byte) (f : Flag) :
    f ∉ [.c, .z, .n] → (p.compare reg m).get f = p.get f := by
  cases f <;> simp [Status.get, Status.compare]

theorem Status.get_bitNV_bitZ (p : Status) (a m : Byte) (f : Flag) :
    f ∉ [.z, .v, .n] → ((p.bitZ a m).bitNV m).get f = p.get f := by
  cases f <;> simp [Status.get, Status.bitNV, Status.bitZ]

theorem Status.get_restore (p : Status) (v : Byte) (f : Flag) :
    f ∉ [.c, .z, .i, .d, .v, .n] → (p.restore v).get f = p.get f := by
  cases f <;> simp [Status.get, Status.restore]

theorem Status.get_set_of_ne (p : Status) {f g : Flag} (on : Bool) (h : g ≠ f) : (p.set f on).get g = p.get g := by
  cases f <;> cases g <;> simp_all [Status.get, Status.set]

/-- ADC writes A and, of P, the four flags of R150 at most. -/
theorem State.addToA_eq (s : State) (m : Byte) : ∃ v p, s.addToA m = (s.setA v).setP p ∧
    ∀ f, f ∉ [.c, .z, .v, .n] → p.get f = s.p.get f := by
  unfold State.addToA
  split
  · exact ⟨_, _, rfl, s.p.get_decimal _⟩
  · exact ⟨_, _, rfl, s.p.get_binary _⟩

/-- SBC writes A and, of P, the four flags of R151 at most. -/
theorem State.subFromA_eq (s : State) (m : Byte) : ∃ v p, s.subFromA m = (s.setA v).setP p ∧
    ∀ f, f ∉ [.c, .z, .v, .n] → p.get f = s.p.get f := by
  unfold State.subFromA
  split
  · exact ⟨_, _, rfl, s.p.get_decimal _⟩
  · exact ⟨_, _, rfl, s.p.get_binary _⟩

/-! ### What a meaning leaves unchanged -/

/-- A flag that is not the meaning's keeps its value. -/
theorem Meaning.effect_get (m : Meaning) (s : State) {f : Flag} (hf : f ∉ m.flags) : (m.effect s).p.get f = s.p.get f := by
  cases m with
  | load r o => simpa [Meaning.effect] using Status.get_setZN _ _ f hf
  | adjustRegister delta r => simpa [Meaning.effect] using Status.get_setZN _ _ f hf
  | transfer source target => simpa [Meaning.effect] using Status.get_setZN _ _ f hf
  | adjustMemory delta m => exact Status.get_setZN _ _ f hf
  | logical g o => exact Status.get_setZN _ _ f hf
  | pullA => exact Status.get_setZN _ _ f hf
  | add o =>
    obtain ⟨v, p, heq, hp⟩ := s.addToA_eq (o.value s)
    rw [Meaning.effect, heq]
    exact hp f hf
  | subtract o =>
    obtain ⟨v, p, heq, hp⟩ := s.subFromA_eq (o.value s)
    rw [Meaning.effect, heq]
    exact hp f hf
  | bitTest m => exact Status.get_bitNV_bitZ _ _ _ f hf
  | shiftA g => exact Status.get_shifted _ _ _ f hf
  | shiftMemory g m => exact Status.get_shifted _ _ _ f hf
  | compare r o => exact Status.get_compare _ _ _ f hf
  | branch g expected off =>
    rw [Meaning.effect]
    split <;> rfl
  | pullP => exact Status.get_restore _ _ f hf
  | interruptReturn => simpa [Meaning.effect] using Status.get_restore _ _ f hf
  | breakTrap => exact Status.get_set_of_ne s.p true (List.ne_of_not_mem_cons hf)
  | setFlag g on => exact Status.get_set_of_ne s.p on (List.ne_of_not_mem_cons hf)
  | store | jump | jumpIndirect | call | ret | push | nothing | setStack => rfl

theorem State.reg_eq_of_ne_s {s t : State} (ha : t.a = s.a) (hx : t.x = s.x) (hy : t.y = s.y) {r : Register} (hr : r ≠ .s) :
    t.reg r = s.reg r := by
  cases r with
  | a => exact ha
  | x => exact hx
  | y => exact hy
  | s => exact absurd rfl hr

/-- A register that is not the meaning's keeps its value. -/
theorem Meaning.effect_reg (m : Meaning) (s : State) {r : Register} (hr : r ∉ m.registers) :
    (m.effect s).reg r = s.reg r := by
  cases m with
  | load q o => simpa [Meaning.effect] using State.reg_setReg_of_ne s q r _ (List.ne_of_not_mem_cons hr)
  | adjustRegister delta q => simpa [Meaning.effect] using State.reg_setReg_of_ne s q r _ (List.ne_of_not_mem_cons hr)
  | transfer source q => simpa [Meaning.effect] using State.reg_setReg_of_ne s q r _ (List.ne_of_not_mem_cons hr)
  | logical f o => exact State.reg_setReg_of_ne s .a r _ (List.ne_of_not_mem_cons hr)
  | shiftA f => exact State.reg_setReg_of_ne s .a r _ (List.ne_of_not_mem_cons hr)
  | add o =>
    obtain ⟨v, p, heq, -⟩ := s.addToA_eq (o.value s)
    rw [Meaning.effect, heq, State.setP_reg]
    exact State.reg_setReg_of_ne s .a r v (List.ne_of_not_mem_cons hr)
  | subtract o =>
    obtain ⟨v, p, heq, -⟩ := s.subFromA_eq (o.value s)
    rw [Meaning.effect, heq, State.setP_reg]
    exact State.reg_setReg_of_ne s .a r v (List.ne_of_not_mem_cons hr)
  | branch g expected off =>
    rw [Meaning.effect]
    split <;> simp
  | pullA =>
    obtain ⟨ha, hs⟩ : r ≠ .a ∧ r ≠ .s := by simpa [Meaning.registers] using hr
    rw [Meaning.effect, State.setZN_reg, ← State.setReg_a, State.reg_setReg_of_ne _ _ _ _ ha]
    exact State.reg_setReg_of_ne s .s r _ hs
  | setStack => exact State.reg_setReg_of_ne s .s r _ (List.ne_of_not_mem_cons hr)
  | pullP | call | ret | push => refine State.reg_eq_of_ne_s ?_ ?_ ?_ (List.ne_of_not_mem_cons hr) <;> rfl
  | breakTrap =>
    exact State.reg_eq_of_ne_s (State.broken_a s) (State.broken_x s) (State.broken_y s) (List.ne_of_not_mem_cons hr)
  | interruptReturn =>
    exact State.reg_eq_of_ne_s (State.returned_a s) (State.returned_x s) (State.returned_y s) (List.ne_of_not_mem_cons hr)
  | store => exact State.setMem_reg s _ r
  | adjustMemory | shiftMemory => exact (State.setP_reg _ _ r).trans (State.setMem_reg s _ r)
  | bitTest | compare | setFlag => exact State.setP_reg s _ r
  | jump | jumpIndirect => exact State.setPc_reg s _ r
  | nothing => rfl

/-- PC is changed by no meaning but those of R24. -/
theorem Meaning.effect_pc (m : Meaning) (s : State) (h : m.writesPc = false) : (m.effect s).pc = s.pc := by
  cases m with
  | load | adjustRegister | transfer => exact State.setReg_pc s _ _
  | add o =>
    obtain ⟨v, p, heq, -⟩ := s.addToA_eq (o.value s)
    rw [Meaning.effect, heq, State.setP_pc, State.setA_pc]
  | subtract o =>
    obtain ⟨v, p, heq, -⟩ := s.subFromA_eq (o.value s)
    rw [Meaning.effect, heq, State.setP_pc, State.setA_pc]
  | breakTrap => exact State.broken_pc s
  | branch | jump | jumpIndirect | call | ret | interruptReturn => cases h
  | store | adjustMemory | logical | bitTest | shiftA | shiftMemory | compare | push | pullA | pullP | setFlag | nothing
  | setStack => rfl

/-- A meaning that stores nothing leaves memory as it is. -/
theorem Meaning.effect_mem (m : Meaning) (s : State) (h : m.writesMem = false) : (m.effect s).mem = s.mem := by
  cases m with
  | load | adjustRegister | transfer => exact State.setReg_mem s _ _
  | add o =>
    obtain ⟨v, p, heq, -⟩ := s.addToA_eq (o.value s)
    rw [Meaning.effect, heq, State.setP_mem, State.setA_mem]
  | subtract o =>
    obtain ⟨v, p, heq, -⟩ := s.subFromA_eq (o.value s)
    rw [Meaning.effect, heq, State.setP_mem, State.setA_mem]
  | branch g expected off =>
    rw [Meaning.effect]
    split <;> rfl
  | interruptReturn => exact State.returned_mem s
  | store | adjustMemory | shiftMemory | call | push | breakTrap => cases h
  | logical | bitTest | shiftA | compare | jump | jumpIndirect | ret | pullA | pullP | setFlag | nothing | setStack => rfl

/-- Every meaning keeps memory canonical. -/
theorem Meaning.effect_wf (m : Meaning) {s : State} (h : s.mem.wf = true) : (m.effect s).mem.wf = true := by
  cases hm : m.writesMem with
  | false => rwa [m.effect_mem s hm]
  | true =>
    cases m with
    | store | adjustMemory | shiftMemory => exact Memory.wf_write h _ _
    | push v => exact State.wf_pushed h _
    | call w => exact State.wf_pushed (State.wf_pushed h _) _
    | breakTrap =>
      rw [Meaning.effect, State.broken_mem]
      exact State.wf_framed h _ _
    | _ => cases hm

/-- No meaning writes the registry, the latches, the debug bit or the parameters. -/
theorem Meaning.effect_platform (m : Meaning) (s : State) : (m.effect s).platform = s.platform := by
  cases m with
  | load | adjustRegister | transfer => exact State.setReg_platform s _ _
  | add o =>
    obtain ⟨v, p, heq, -⟩ := s.addToA_eq (o.value s)
    rw [Meaning.effect, heq]
    rfl
  | subtract o =>
    obtain ⟨v, p, heq, -⟩ := s.subFromA_eq (o.value s)
    rw [Meaning.effect, heq]
    rfl
  | branch g expected off =>
    rw [Meaning.effect]
    split <;> rfl
  | breakTrap => simp [Meaning.effect, State.platform]
  | interruptReturn => simp [Meaning.effect, State.platform]
  | store | adjustMemory | logical | bitTest | shiftA | shiftMemory | compare | jump | jumpIndirect | call | ret | push | pullA
  | pullP | setFlag | nothing | setStack => rfl

/-- Only BRK's meaning moves the run state. -/
theorem Meaning.effect_run (m : Meaning) (s : State) (h : m ≠ .breakTrap) : (m.effect s).run = s.run := by
  cases m with
  | load | adjustRegister | transfer => exact State.setReg_run s _ _
  | add o =>
    obtain ⟨v, p, heq, -⟩ := s.addToA_eq (o.value s)
    rw [Meaning.effect, heq, State.setP_run, State.setA_run]
  | subtract o =>
    obtain ⟨v, p, heq, -⟩ := s.subFromA_eq (o.value s)
    rw [Meaning.effect, heq, State.setP_run, State.setA_run]
  | branch g expected off =>
    rw [Meaning.effect]
    split <;> rfl
  | breakTrap => exact absurd rfl h
  | interruptReturn => exact State.returned_run s
  | store | adjustMemory | logical | bitTest | shiftA | shiftMemory | compare | jump | jumpIndirect | call | ret | push | pullA
  | pullP | setFlag | nothing | setStack => rfl

end Sys2Proof.Machine
end

section
/-! SUPPORT. What an instruction may write is what R20 to R28 list for its operation. -/

namespace Sys2Proof.Machine

open Sys2Proof.Claims

/-- The operations R28 lists for a flag. -/
def Flag.writers : Flag → List Mnemonic
  | .c => writesC
  | .z | .n => writesZ
  | .i => writesI
  | .d => writesD
  | .v => writesV
  | .b => []

/-- The operations R20 to R23 list for a register. -/
def Register.writers : Register → List Mnemonic
  | .a => writesA
  | .x => writesX
  | .y => writesY
  | .s => writesS

@[simp] theorem Meaning.flags_shift (f : Byte → Bool → Byte × Bool) (o : ResolvedOperand) :
    (Meaning.shift f o).flags = [.c, .z, .n] := by
  cases o <;> rfl

@[simp] theorem Meaning.flags_jumpTo (o : ResolvedOperand) : (Meaning.jumpTo o).flags = [] := by
  cases o <;> rfl

theorem Meaning.mem_registers_shift {f : Byte → Bool → Byte × Bool} {o : ResolvedOperand} {r : Register}
    (h : r ∈ (Meaning.shift f o).registers) : r = .a := by
  cases o with
  | accumulator => exact List.mem_singleton.1 h
  | _ => cases h

@[simp] theorem Meaning.registers_jumpTo (o : ResolvedOperand) : (Meaning.jumpTo o).registers = [] := by
  cases o <;> rfl

@[simp] theorem Meaning.writesPc_shift (f : Byte → Bool → Byte × Bool) (o : ResolvedOperand) :
    (Meaning.shift f o).writesPc = false := by
  cases o <;> rfl

@[simp] theorem Meaning.writesMem_jumpTo (o : ResolvedOperand) : (Meaning.jumpTo o).writesMem = false := by
  cases o <;> rfl

/-- The operations whose meaning may write a flag are those R28 lists for it. -/
theorem Mnemonic.mem_writers_of_flag (m : Mnemonic) (o : ResolvedOperand) : ∀ f ∈ (m.meaning o).flags, m ∈ f.writers := by
  cases m with
  | asl | lsr | rol | ror =>
    rw [Mnemonic.meaning, Meaning.flags_shift]
    decide
  | jmp =>
    rw [Mnemonic.meaning, Meaning.flags_jumpTo]
    exact List.forall_mem_nil _
  | _ => simp [Mnemonic.meaning, Meaning.flags, Flag.writers, writesC, writesZ, writesI, writesD, writesV]

/-- The operations whose meaning may write a register are those R20 to R23 list for it. -/
theorem Mnemonic.mem_writers_of_register (m : Mnemonic) (o : ResolvedOperand) :
    ∀ r ∈ (m.meaning o).registers, m ∈ r.writers := by
  cases m with
  | asl | lsr | rol | ror =>
    intro r hr
    rw [Meaning.mem_registers_shift hr]
    decide
  | jmp =>
    rw [Mnemonic.meaning, Meaning.registers_jumpTo]
    exact List.forall_mem_nil _
  | _ => simp [Mnemonic.meaning, Meaning.registers, Register.writers, writesA, writesX, writesY, writesS]

/-- The operations whose meaning may write PC are those R24 lists. -/
theorem Mnemonic.mem_writesPc (m : Mnemonic) (o : ResolvedOperand) : (m.meaning o).writesPc = true → m ∈ writesPc := by
  cases m with
  | asl | lsr | rol | ror =>
    rw [Mnemonic.meaning, Meaning.writesPc_shift]
    exact Bool.noConfusion
  | bcc | bcs | beq | bne | bmi | bpl | bvc | bvs | jmp | jsr | rts | rti => exact fun _ => by decide
  | _ => exact Bool.noConfusion

theorem Mnemonic.mem_writesMem (m : Mnemonic) (o : ResolvedOperand) : (m.meaning o).writesMem = true → m ∈ writesMem := by
  cases m with
  | jmp =>
    rw [Mnemonic.meaning, Meaning.writesMem_jumpTo]
    exact Bool.noConfusion
  | sta | stx | sty | inc | dec | asl | lsr | rol | ror | pha | php | jsr | brk => exact fun _ => by decide
  | _ => exact Bool.noConfusion

/-- In Accumulator mode an instruction is a shift of A. -/
theorem Instr.meaning_of_accumulator {i : Instr} (h : i.operand = .accumulator) : ∃ f, i.meaning = .shiftA f := by
  cases i with
  | aslAcc => exact ⟨aslByte, rfl⟩
  | lsrAcc => exact ⟨lsrByte, rfl⟩
  | rolAcc => exact ⟨rolByte, rfl⟩
  | rorAcc => exact ⟨rorByte, rfl⟩
  | _ => cases h

theorem Instr.eq_brk_of_meaning {i : Instr} (h : i.meaning = .breakTrap) : i = .brk := by
  cases i with
  | brk => rfl
  | _ => cases h

/-! ### What an instruction leaves unchanged -/

section
variable {i : Instr} {s t : State} (h : exec i s = .next t)
include h

/-- A flag that changed is one the instruction's operation is listed for. -/
theorem exec_mem_flag_writers (f : Flag) (hne : t.p.get f ≠ s.p.get f) : i.mnemonic ∈ f.writers := by
  by_contra hnot
  refine hne ?_
  rw [State.p_of_arch (exec_next h)]
  exact i.meaning.effect_get s fun hf => hnot (Mnemonic.mem_writers_of_flag _ _ f hf)

/-- A register that changed is one the instruction's operation is listed for. -/
theorem exec_mem_register_writers (r : Register) (hne : t.reg r ≠ s.reg r) : i.mnemonic ∈ r.writers := by
  by_contra hnot
  refine hne ?_
  rw [State.reg_of_arch (exec_next h)]
  exact i.meaning.effect_reg s fun hr => hnot (Mnemonic.mem_writers_of_register _ _ r hr)

theorem exec_mem_writesPc (hne : t.pc ≠ s.pc) : i.mnemonic ∈ writesPc := by
  by_contra hnot
  refine hne ?_
  rw [State.pc_of_arch (exec_next h)]
  exact i.meaning.effect_pc s (Bool.eq_false_iff.2 fun hpc => hnot (Mnemonic.mem_writesPc _ _ hpc))

theorem exec_mem (hnot : i.mnemonic ∉ writesMem ∨ i.operand = .accumulator) : t.mem = s.mem := by
  rw [State.mem_of_arch (exec_next h)]
  refine i.meaning.effect_mem s ?_
  rcases hnot with hnot | hacc
  · exact Bool.eq_false_iff.2 fun hmem => hnot (Mnemonic.mem_writesMem _ _ hmem)
  · obtain ⟨f, hf⟩ := Instr.meaning_of_accumulator hacc
    rw [hf]
    rfl

theorem exec_platform : t.platform = s.platform :=
  (State.platform_of_arch (exec_next h)).trans (i.meaning.effect_platform s)

theorem exec_run (hne : i ≠ .brk) : t.run = s.run :=
  (State.run_of_arch (exec_next h)).trans (i.meaning.effect_run s fun hb => hne (Instr.eq_brk_of_meaning hb))

theorem exec_wf (hwf : s.mem.wf = true) : t.mem.wf = true :=
  State.mem_of_arch (exec_next h) ▸ i.meaning.effect_wf hwf

/-- No instruction writes Break (R27). -/
theorem exec_b : t.p.b = s.p.b := by
  by_contra hne
  exact List.not_mem_nil (exec_mem_flag_writers h .b hne)

end

end Sys2Proof.Machine
end

section
/-! SUPPORT. The rules over all instructions (spec/10_state.md), settled. -/

namespace Sys2Proof.Claims

open Sys2Proof.Machine

/-- Settles O38: no meaning writes a flag that R28 does not list for the operation. -/
theorem flagsChangeOnlyByTheirWriters : Obligations.FlagsChangeOnlyByTheirWriters := fun _ _ _ h =>
  ⟨exec_mem_flag_writers h .c, exec_mem_flag_writers h .z, exec_mem_flag_writers h .n, exec_mem_flag_writers h .i,
    exec_mem_flag_writers h .d, exec_mem_flag_writers h .v, exec_b h⟩

/-- Settles O39: no meaning writes a register that R20 to R24 do not list for the operation. -/
theorem registersChangeOnlyByTheirWriters : Obligations.RegistersChangeOnlyByTheirWriters := fun _ _ _ h =>
  ⟨exec_mem_register_writers h .a, exec_mem_register_writers h .x, exec_mem_register_writers h .y,
    exec_mem_register_writers h .s, exec_mem_writesPc h⟩

/-- Settles O40: the meanings that write memory are the listed operations', and none writes the platform. -/
theorem onlyStoringInstructionsChangeMemory : Obligations.OnlyStoringInstructionsChangeMemory := by
  intro i s t h
  obtain ⟨hreg, hnmi, hirq, hdebug, hcfg⟩ : _ ∧ _ ∧ _ ∧ _ ∧ _ := by simpa [State.platform] using exec_platform h
  exact ⟨fun hnot b => by rw [exec_mem h hnot], hreg, hnmi, hirq, hdebug, hcfg, exec_run h⟩

end Sys2Proof.Claims
end

section
/-! SUPPORT. The step, case by case (spec/40_step_and_addressing.md R110 to R113, spec/60_exceptions.md R260 to R271): what it does where Memory is on
the bus, and everything it can have done where it answers a next state. -/

namespace Sys2Proof.Machine

open Sys2Proof.Claims

theorem selectInterrupt_eq_none_iff (s : State) :
    selectInterrupt s = none ↔ s.nmiPending = false ∧ (s.irqPending = false ∨ s.p.i = true) := by
  cases hn : s.nmiPending <;> cases hq : s.irqPending <;> cases hi : s.p.i <;> simp [selectInterrupt, hn, hq, hi]

theorem executing_iff (s : State) : Executing s ↔ s.run.isHalted = false ∧ selectInterrupt s = none := by
  rw [selectInterrupt_eq_none_iff, Executing]

/-- The opcode of the next instruction. -/
abbrev State.opcode (s : State) : Byte := s.mem.read s.pc

/-- The state in which the instruction of row `e` executes: Running, with PC past it (R112). -/
def State.fetched (s : State) (e : OpcodeEntry) : State :=
  (s.setRun .running).setPc (s.pc + BitVec.ofNat 16 (1 + e.form.size))

/-- The instruction that the bytes at PC make with the row `e`. -/
def State.instruction (s : State) (e : OpcodeEntry) : Instr :=
  e.form.build (s.mem.read (s.pc + 1)) (s.mem.read (s.pc + 2))

/-- The state after the fetch of an opcode: Running, with PC one past it. -/
def State.pastOpcode (s : State) : State := (s.setRun .running).setPc (s.pc + 1)

theorem State.MemoryReady.pastOpcode {s : State} (h : s.MemoryReady) : s.pastOpcode.MemoryReady :=
  State.memoryReady_of_registry rfl h

/-! ### What a step does where Memory is on the bus -/

theorem fetchOpcode_answers {s : State} (h : s.MemoryReady) : AnswersAs (fetchByte s.started) s.opcode s.pastOpcode :=
  (fetchByte_answers h.started).congr rfl

/-- A selected interrupt is serviced (R263, R264). -/
theorem step_services {s : State} {k : InterruptKind} (h : s.MemoryReady) (hrun : s.run.isHalted = false)
    (hsel : selectInterrupt s = some k) :
    ∃ u : State, u.arch = (s.started.entered k).arch ∧ step s = .next (u.setResult (.serviced k)) := by
  obtain ⟨u, hu, hua⟩ := serviceInterrupt_completes h.started k
  exact ⟨u, hua, by rw [step_interrupt hrun hsel, serviceStep, hu, andThen_next]⟩

/-- An unpopulated opcode halts the core (R271). -/
theorem step_illegal {s s1 : State} {op : Byte} (hx : Executing s) (hf : fetchByte s.started = .next (op, s1))
    (he : opcodeEntry s1.cfg op = none) : step s = .next (illegalOpcode op s1) := by
  obtain ⟨hrun, hsel⟩ := (executing_iff s).1 hx
  rw [step_instruction hrun hsel, fetchAndExecute, hf, andThen_next]
  simp only [he]

theorem fetchOperand_after_opcode {s s1 : State} (h : s.MemoryReady) (h1 : s1.arch = s.pastOpcode.arch) (e : OpcodeEntry) :
    AnswersAs (fetchOperand e.form s1) (s.instruction e) (s.fetched e) := by
  have hpc : s1.pc = s.pc + 1 := (State.pc_of_arch h1).trans rfl
  have hmem : s1.mem = s.mem := (State.mem_of_arch h1).trans rfl
  have hpc2 : s.pc + 1 + 1 = s.pc + 2 := by bv_omega
  have hans := fetchOperand_answers (State.memoryReady_of_arch h1 h.pastOpcode) e.form
  rw [hpc, hmem, hpc2] at hans
  refine hans.congr ?_
  have hsum : s.pc + 1 + BitVec.ofNat 16 e.form.size = s.pc + BitVec.ofNat 16 (1 + e.form.size) := by
    rw [BitVec.ofNat_add, ← BitVec.add_assoc]
    rfl
  rw [State.setPc_arch, h1, hsum]
  rfl

/-- A populated opcode runs its instruction past the fetch, after which only the outputs are written (R110 to R113). -/
theorem step_executes {s : State} {e : OpcodeEntry} (h : s.MemoryReady) (hx : Executing s)
    (he : opcodeEntry s.cfg s.opcode = some e) :
    ∃ f, f.arch = (s.fetched e).arch ∧
      step s = andThen (exec (s.instruction e) f) fun t => .next (retire s.pc s.opcode e (s.instruction e) t) := by
  obtain ⟨hrun, hsel⟩ := (executing_iff s).1 hx
  obtain ⟨s1, hf, h1⟩ := fetchOpcode_answers h
  obtain ⟨f, hop, hfa⟩ := fetchOperand_after_opcode h h1 e
  have hcfg : s1.cfg = s.cfg := (State.cfg_of_arch h1).trans rfl
  refine ⟨f, hfa, ?_⟩
  rw [step_instruction hrun hsel, fetchAndExecute, hf, andThen_next]
  simp only [hcfg, he, hop, andThen_next]
  rfl

theorem State.MemoryReady.of_fetched {s f : State} {e : OpcodeEntry} (h : s.MemoryReady) (hf : f.arch = (s.fetched e).arch) :
    f.MemoryReady :=
  State.memoryReady_of_registry (State.registry_of_arch hf) h

/-- With Memory on the bus every step answers a next state (R68). -/
theorem step_total {s : State} (h : s.MemoryReady) : ∃ t, step s = .next t := by
  cases hrun : s.run.isHalted with
  | true => exact ⟨_, step_halted hrun⟩
  | false =>
    cases hsel : selectInterrupt s with
    | some k =>
      obtain ⟨u, -, hstep⟩ := step_services h hrun hsel
      exact ⟨_, hstep⟩
    | none =>
      have hx := (executing_iff s).2 ⟨hrun, hsel⟩
      cases he : opcodeEntry s.cfg s.opcode with
      | none =>
        obtain ⟨s1, hf, h1⟩ := fetchOpcode_answers h
        have hcfg : s1.cfg = s.cfg := (State.cfg_of_arch h1).trans rfl
        exact ⟨_, step_illegal hx hf (hcfg ▸ he)⟩
      | some e =>
        obtain ⟨f, hf, hstep⟩ := step_executes h hx he
        obtain ⟨u, hu, -⟩ := exec_completes (s.instruction e) (h.of_fetched hf)
        exact ⟨_, by rw [hstep, hu, andThen_next]⟩

/-! ### Everything a step can have done -/

/-- The four kinds of step, outputs apart. -/
theorem step_next {s t : State} (h : step s = .next t) :
    (s.run.isHalted = true ∧ t.arch = s.arch) ∨
    (s.run.isHalted = false ∧ ∃ k, selectInterrupt s = some k ∧ t.arch = (s.started.entered k).arch) ∨
    (Executing s ∧ opcodeEntry s.cfg s.opcode = none ∧ t.arch = (s.pastOpcode.halt .illegalOpcode).arch) ∨
    (Executing s ∧ ∃ e f u, opcodeEntry s.cfg s.opcode = some e ∧ f.arch = (s.fetched e).arch ∧
      exec (s.instruction e) f = .next u ∧ t.arch = u.arch) := by
  rcases step_cases h with ⟨hrun, rfl⟩ | ⟨hrun, k, u, hsel, hu, rfl⟩ | ⟨hrun, hsel, op, s1, hf, hrest⟩
  · exact .inl ⟨hrun, rfl⟩
  · exact .inr (.inl ⟨hrun, k, hsel, (serviceInterrupt_next hu).2⟩)
  · have hx := (executing_iff s).2 ⟨hrun, hsel⟩
    obtain ⟨hready, rfl, h1⟩ := fetchByte_next hf
    replace hready : s.MemoryReady := hready
    replace h1 : s1.arch = s.pastOpcode.arch := h1
    have hcfg : s1.cfg = s.cfg := (State.cfg_of_arch h1).trans rfl
    rw [hcfg] at hrest
    rcases hrest with ⟨he, rfl⟩ | ⟨e, i, f, u, he, hop, hu, rfl⟩
    · exact .inr (.inr (.inl ⟨hx, he, by rw [illegalOpcode_arch, h1]; rfl⟩))
    · obtain ⟨rfl, hfa⟩ := (fetchOperand_after_opcode hready h1 e).eq hop
      exact .inr (.inr (.inr ⟨hx, e, f, u, he, hfa, hu, rfl⟩))

/-- The instruction at a populated opcode has that opcode. -/
theorem State.opcode_instruction {s : State} {e : OpcodeEntry} (he : opcodeEntry s.cfg s.opcode = some e) :
    (s.instruction e).opcode = s.opcode :=
  ((sound_of_rowAt (opcodeEntry_eq_some_iff.1 he).1).build _ _).1

/-- Only BRK's step and an unpopulated opcode's halt the core (R260). -/
theorem step_run {s t : State} (hrun : s.run.isHalted = false) (h : step s = .next t) :
    t.run = .running ∨ (t.run = .halted .brk ∧ Executing s ∧ s.opcode = 0x00) ∨
      (t.run = .halted .illegalOpcode ∧ Executing s ∧ opcodeEntry s.cfg s.opcode = none) := by
  rcases step_next h with ⟨hhalt, -⟩ | ⟨-, k, -, ht⟩ | ⟨hx, he, ht⟩ | ⟨hx, e, f, u, he, hf, hu, ht⟩
  · exact absurd (hrun.symm.trans hhalt) Bool.false_ne_true
  · exact .inl ((State.run_of_arch ht).trans (State.entered_run _ k))
  · exact .inr (.inr ⟨State.run_of_arch ht, hx, he⟩)
  · by_cases hbrk : s.instruction e = .brk
    · rw [hbrk] at hu
      refine .inr (.inl ⟨?_, hx, by rw [← State.opcode_instruction he, hbrk]; rfl⟩)
      rw [State.run_of_arch ht, State.run_of_arch (exec_next hu)]
      exact State.broken_run f
    · exact .inl (by rw [State.run_of_arch ht, exec_run hu hbrk, State.run_of_arch hf]; rfl)

/-- No step writes Break, the registry, the debug bit or the parameters. -/
theorem step_keeps {s t : State} (h : step s = .next t) :
    t.p.b = s.p.b ∧ t.registry = s.registry ∧ t.debugEnabled = s.debugEnabled ∧ t.cfg = s.cfg := by
  rcases step_next h with ⟨-, ht⟩ | ⟨-, k, -, ht⟩ | ⟨-, -, ht⟩ | ⟨-, e, f, u, -, hf, hu, ht⟩
  · rw [State.p_of_arch ht, State.registry_of_arch ht, State.debugEnabled_of_arch ht, State.cfg_of_arch ht]
    exact ⟨rfl, rfl, rfl, rfl⟩
  · rw [State.p_of_arch ht, State.registry_of_arch ht, State.debugEnabled_of_arch ht, State.cfg_of_arch ht, State.entered_p,
      State.entered_registry, State.entered_debugEnabled, State.entered_cfg]
    exact ⟨rfl, rfl, rfl, rfl⟩
  · rw [State.p_of_arch ht, State.registry_of_arch ht, State.debugEnabled_of_arch ht, State.cfg_of_arch ht]
    exact ⟨rfl, rfl, rfl, rfl⟩
  · obtain ⟨hreg, -, -, hdebug, hcfg⟩ : _ ∧ _ ∧ _ ∧ _ ∧ _ := by simpa [State.platform] using exec_platform hu
    rw [State.p_of_arch ht, State.registry_of_arch ht, State.debugEnabled_of_arch ht, State.cfg_of_arch ht, exec_b hu, hreg,
      hdebug, hcfg, State.p_of_arch hf, State.registry_of_arch hf, State.debugEnabled_of_arch hf, State.cfg_of_arch hf]
    exact ⟨rfl, rfl, rfl, rfl⟩

/-- Every step keeps memory canonical. -/
theorem step_wf {s t : State} (hwf : s.mem.wf = true) (h : step s = .next t) : t.mem.wf = true := by
  rcases step_next h with ⟨-, ht⟩ | ⟨-, k, -, ht⟩ | ⟨-, -, ht⟩ | ⟨-, e, f, u, -, hf, hu, ht⟩
  · rwa [State.mem_of_arch ht]
  · rw [State.mem_of_arch ht, State.entered_mem]
    exact State.wf_framed (s := s.started) hwf _ _
  · rw [State.mem_of_arch ht]
    exact hwf
  · rw [State.mem_of_arch ht]
    exact exec_wf hu (by rw [State.mem_of_arch hf]; exact hwf)

/-- Every step keeps the invariant. -/
theorem State.Inv.step {s t : State} (hinv : s.Inv) (h : step s = .next t) : t.Inv := by
  obtain ⟨hwf, hready, hprod, hb⟩ := hinv
  obtain ⟨hkb, hkr, -, -⟩ := step_keeps h
  refine ⟨step_wf hwf h, State.memoryReady_of_registry hkr hready, ?_, hkb.trans hb⟩
  cases hrun : s.run.isHalted with
  | true =>
    cases (step_halted hrun).symm.trans h
    exact hprod
  | false => rcases step_run hrun h with hr | ⟨hr, -⟩ | ⟨hr, -⟩ <;> rw [hr] <;> rfl

/-! ### Runs -/

theorem core_run_total (n : Nat) {s : State} (h : s.MemoryReady) : ∃ t, Sys2Proof.core.run n s = .next t := by
  induction n generalizing s with
  | zero => exact ⟨s, rfl⟩
  | succ n ih =>
    obtain ⟨t, ht⟩ := step_total h
    obtain ⟨-, hreg, -, -⟩ := step_keeps ht
    rw [core_run_next ht]
    exact ih (State.memoryReady_of_registry hreg h)

theorem core_run_halted (n : Nat) {s : State} (h : s.run.isHalted = true) : CompletesAs (Sys2Proof.core.run n s) s := by
  induction n generalizing s with
  | zero => exact CompletesAs.intro rfl
  | succ n ih =>
    rw [core_run_next (step_halted h)]
    exact (ih (s := ignoredStep s) h).congr rfl

/-- A loop that ends, ends in the invariant, halted by BRK or by an unpopulated opcode (R286, R287). -/
theorem runLoop_ends {fuel : Nat} {s : State} {r : Host.Outcome State Fault Refusal} (hinv : s.Inv)
    (hrun : s.run.isHalted = false) (h : runLoop fuel s = some r) : ∃ t, r = .next t ∧ t.Inv ∧ (t.NormalEnd ∨ t.IllegalEnd) := by
  induction fuel generalizing s with
  | zero => cases h
  | succ fuel ih =>
    have ⟨_, hready, _, _⟩ := hinv
    obtain ⟨t, ht⟩ := step_total hready
    have hti := hinv.step ht
    simp only [runLoop, ht] at h
    split at h
    · next hr => exact ih hti (by rw [hr]; rfl) h
    · next hr =>
      cases h
      refine ⟨t, rfl, hti, ?_⟩
      rcases step_run hrun ht with hr' | ⟨hr', -⟩ | ⟨hr', -⟩
      · exact absurd hr' hr
      · exact .inl hr'
      · exact .inr hr'

/-- The halted states the core produces are the two ends of a run. -/
theorem RunState.ends_of_produced {r : RunState} (hp : r.produced = true) (hh : r.isHalted = true) :
    r = .halted .brk ∨ r = .halted .illegalOpcode := by
  match r with
  | .halted .brk => exact .inl rfl
  | .halted .illegalOpcode => exact .inr rfl
  | .ready | .running => cases hh
  | .halted .reset | .halted .irq | .halted .nmi => cases hp

end Sys2Proof.Machine
end

section
/-! SUPPORT. The statements on every step and every run (spec/60_exceptions.md), settled. -/

namespace Sys2Proof.Claims

open Sys2Proof.Machine

/-- Settles O59: each of the four kinds of step keeps memory canonical, the registry and Break, and ends in a run state the core produces. -/
theorem stepKeepsInvariant : Obligations.StepKeepsInvariant := fun _ _ hinv h => hinv.step h

/-- Settles O60, by induction on the number of steps: a step is total where Memory is on the bus, and keeps it there. -/
theorem runsNeverStop : Obligations.RunsNeverStop := fun n _ hready => core_run_total n hready

/-- Settles O55: the frame of the four kinds of step. -/
theorem stepKeepsBreakAndPlatform : Obligations.StepKeepsBreakAndPlatform := fun _ _ h => step_keeps h

/-- Settles O56: the run state after each of the four kinds of step. -/
theorem onlyBrkAndIllegalOpcodesHalt : Obligations.OnlyBrkAndIllegalOpcodesHalt := fun _ _ hrun h => step_run hrun h

/-- Settles O57: a run from a halted state is over, any other ends by the loop. -/
theorem runReturnsHalted : Obligations.RunReturnsHalted := by
  intro fuel s r hinv h
  unfold run at h
  split at h
  · next hrun =>
    cases h
    have ⟨_, _, hprod, _⟩ := hinv
    exact ⟨s, rfl, hinv, RunState.ends_of_produced hprod hrun⟩
  · next hrun => exact runLoop_ends hinv (Bool.eq_false_iff.2 hrun) h

/-- Settles O58: each part of the invariant by evaluation of the one state. -/
theorem invariantAtReset : Obligations.InvariantAtReset := by
  refine ⟨Memory.wf_nil, State.Scoped.memoryReady rfl, rfl, rfl⟩

/-- Settles O45: a halted core ignores the step, so by induction any number of them. -/
theorem haltedIgnoresSteps : Obligations.HaltedIgnoresSteps := fun n s hrun =>
  ⟨core_run_halted n hrun, ignoredStep s, step_halted hrun, rfl, rfl⟩

end Sys2Proof.Claims
end

section
/-! SUPPORT. The step's outputs (spec/60_exceptions.md R285, R288): its result, its cycles (spec/40_step_and_addressing.md R132) and the
transactions of an opcode fetch. -/

namespace Sys2Proof.Machine

open Sys2Proof.Claims

/-! ### The instruction at PC -/

/-- The bytes at PC decode to the instruction the step fetches. -/
theorem entry_of_at {i : Instr} {s : State} (h : At i s) : ∃ e, opcodeEntry s.cfg s.opcode = some e ∧ s.opcode = i.opcode ∧
    e.mnemonic = i.mnemonic ∧ e.mode = i.operand.mode ∧ e.form.size = i.operand.mode.operandBytes ∧ s.instruction e = i := by
  obtain ⟨rest, hdec⟩ := h
  obtain ⟨e, he, hm, hmode, hsize, hbytes, -⟩ := decode_eq_ok hdec
  obtain ⟨hop, -⟩ := List.cons.inj hbytes
  rw [← hop] at he
  obtain ⟨rest', hbuild⟩ := decode_eq_build (b1 := s.mem.read (s.pc + 1)) (b2 := s.mem.read (s.pc + 2)) he
  obtain ⟨hi, -⟩ := Decoded.ok.inj (hbuild.symm.trans hdec)
  exact ⟨e, he, hop, hm, hmode, hsize, hi⟩

/-- Running, with PC past an instruction: the state in which it executes (R112). -/
def State.past (s : State) (i : Instr) : State :=
  (s.setRun .running).setPc (s.pc + BitVec.ofNat 16 (1 + i.operand.mode.operandBytes))

/-! ### The trace and the event of an opcode fetch -/

theorem respondTo_event (n : String) (b : BusTransaction) (s : State) : (respondTo n b s).obs.event = s.obs.event := by
  unfold respondTo
  split
  · rfl
  · next r _ => cases h : r.handle <;> rfl

theorem fetchByte_eq {s : State} (h : s.MemoryReady) : fetchByte s =
    .next (s.opcode, (respondTo "CPU" ⟨s.pc, s.opcode, .read⟩ s).setPc (s.pc + 1)) := by
  rcases memRead_cases s.pc s with ⟨-, hread⟩ | ⟨hnot, -⟩
  · have hpc : (respondTo "CPU" ⟨s.pc, s.opcode, .read⟩ s).pc = s.pc := State.pc_of_arch (respondTo_arch ..)
    rw [fetchByte, hread, andThen_next]
    simp only [hpc]
  · exact absurd h hnot

/-! ### Latches and results -/

@[simp] theorem State.entered_nmi_nmiPending (s : State) : (s.entered .nmi).nmiPending = false := by
  simp [State.entered, State.setPending]
@[simp] theorem State.entered_irq_irqPending (s : State) : (s.entered .irq).irqPending = false := by
  simp [State.entered, State.setPending]
@[simp] theorem State.entered_nmi_irqPending (s : State) : (s.entered .nmi).irqPending = s.irqPending := by
  simp [State.entered, State.setPending]
@[simp] theorem State.entered_irq_nmiPending (s : State) : (s.entered .irq).nmiPending = s.nmiPending := by
  simp [State.entered, State.setPending]

section
variable {s t : State} (h : step s = .next t) (hx : Executing s)
include h hx

/-- A step that takes no interrupt executes an instruction or finds none. -/
theorem step_result_of_executing :
    (∃ n, t.obs.result = some (.executed n)) ∨ t.obs.result = some (.illegalOpcode s.opcode) := by
  obtain ⟨hrun, hsel⟩ := (executing_iff s).1 hx
  rcases step_cases h with ⟨hhalt, -⟩ | ⟨-, k, u, hsome, -⟩ | ⟨-, -, op, s1, hf, ⟨-, rfl⟩ | ⟨e, i, f, u, -, -, -, rfl⟩⟩
  · exact absurd (hrun.symm.trans hhalt) Bool.false_ne_true
  · cases hsel.symm.trans hsome
  · obtain ⟨-, rfl, -⟩ := fetchByte_next hf
    exact .inr rfl
  · exact .inl ⟨_, rfl⟩

/-- A step that takes no interrupt leaves both latches (R264). -/
theorem step_latches_of_executing : t.nmiPending = s.nmiPending ∧ t.irqPending = s.irqPending := by
  obtain ⟨hrun, hsel⟩ := (executing_iff s).1 hx
  rcases step_next h with ⟨hhalt, -⟩ | ⟨-, k, hsome, -⟩ | ⟨-, -, ht⟩ | ⟨-, e, f, u, -, hf, hu, ht⟩
  · exact absurd (hrun.symm.trans hhalt) Bool.false_ne_true
  · cases hsel.symm.trans hsome
  · exact ⟨(State.nmiPending_of_arch ht).trans rfl, (State.irqPending_of_arch ht).trans rfl⟩
  · obtain ⟨-, hnmi, hirq, -, -⟩ : _ ∧ _ ∧ _ ∧ _ ∧ _ := by simpa [State.platform] using exec_platform hu
    rw [State.nmiPending_of_arch ht, State.irqPending_of_arch ht, hnmi, hirq, State.nmiPending_of_arch hf,
      State.irqPending_of_arch hf]
    exact ⟨rfl, rfl⟩

end

/-! ### Cycles -/

section
variable {i : Instr} {s : State} {e : OpcodeEntry}

/-- A step reports the realized cycles of the outcome its instruction leaves. -/
theorem reports_of_exec {n : Nat} (he : opcodeEntry s.cfg i.opcode = some e)
    (hexec : ∀ f, f.MemoryReady → f.arch = (s.past i).arch → ∃ t, exec i f = .next t ∧ realizedCycles e t.obs.outcome = n) :
    Reports i s n := by
  intro hready hx hat
  obtain ⟨e', he', hop, -, -, hsize, hi⟩ := entry_of_at hat
  obtain rfl : e = e' := Option.some.inj (he.symm.trans (hop ▸ he'))
  obtain ⟨f, hf, hstep⟩ := step_executes hready hx he'
  rw [hi] at hstep
  have hpast : f.arch = (s.past i).arch := by rw [hf, State.fetched, hsize, State.past]
  obtain ⟨t, ht, hn⟩ := hexec f (hready.of_fetched hf) hpast
  refine ⟨_, by rw [hstep, ht, andThen_next], ?_⟩
  rw [retire, State.setResult_result, hn]

theorem branch_outcome (flag expected : Bool) (off : Byte) (s : State) : ∃ t, branch flag expected off s = .next t ∧
    t.obs.outcome = if flag = expected then ⟨false, true, hiByte (relativeTarget off s) != hiByte s.pc⟩ else .plain := by
  unfold branch
  split <;> exact ⟨_, rfl, rfl⟩

theorem load_outcome {s : State} (h : s.MemoryReady) (r : Register) (o : ReadOperand) :
    ∃ t, load r o s = .next t ∧ t.obs.outcome = .ofCrossed (o.crosses s) := by
  obtain ⟨t, ht, -⟩ := operandValue_answers h o
  exact ⟨_, by rw [load, ht, andThen_next]; rfl, rfl⟩

theorem realizedCycles_ofCrossed (e : OpcodeEntry) (crossed : Bool) :
    realizedCycles e (.ofCrossed crossed) = e.baseCycles + (e.pageCrossAddsCycle && crossed).toNat := by
  simp [realizedCycles, ExecOutcome.ofCrossed]

theorem ReadOperand.crosses_of_past {f : State} (h : f.arch = (s.past i).arch) (o : ReadOperand) : o.crosses f = o.crosses s := by
  have hx : f.x = s.x := (State.x_of_arch h).trans rfl
  have hy : f.y = s.y := (State.y_of_arch h).trans rfl
  have hmem : f.mem = s.mem := (State.mem_of_arch h).trans rfl
  cases o with
  | immediate v => rfl
  | mem m => cases m <;> simp [ReadOperand.crosses, MemOperand.crosses, pointerAt, hx, hy, hmem]

/-- LDA reports its row's base cycles and, where the row says so, one more on a page cross (R132, R140). -/
theorem load_reports (op : Byte) {o : ReadOperand} (hop : i.opcode = op) (he : opcodeEntry s.cfg op = some e)
    (hi : ∀ f, exec i f = load .a o f) :
    Reports i s (e.baseCycles + (e.pageCrossAddsCycle && o.crosses s).toNat) := by
  refine reports_of_exec (hop ▸ he) fun f hready hf => ?_
  obtain ⟨t, ht, hout⟩ := load_outcome hready .a o
  exact ⟨t, by rw [hi, ht], by rw [hout, realizedCycles_ofCrossed, ReadOperand.crosses_of_past hf]⟩

/-- The cycles of a branch (R132, R200): 2, one more if it is taken, one more if it leaves the page of the post-fetch PC. -/
def cyclesOfBranch (s : State) (off : Byte) (taken : Bool) : Nat :=
  if taken then (if (s.pc + 2 + off.signExtend 16).toNat / 256 = (s.pc + 2).toNat / 256 then 3 else 4) else 2

/-- A branch reports the cycles of its test and its target. -/
theorem branch_reports (op : Byte) (flag : Flag) (expected : Bool) {off : Byte} {m : Mnemonic} {form : Form} {taken : Bool}
    (hop : i.opcode = op) (he : opcodeEntry s.cfg op = some ⟨m, .relative, 2, false, true, form⟩)
    (hmode : i.operand.mode = .relative) (hi : ∀ f, exec i f = branch (f.p.get flag) expected off f)
    (htaken : taken = (s.p.get flag == expected)) : Reports i s (cyclesOfBranch s off taken) := by
  refine reports_of_exec (hop ▸ he) fun f _ hf => ?_
  have hp : f.p = s.p := (State.p_of_arch hf).trans rfl
  have hpc : f.pc = s.pc + 2 := by rw [State.pc_of_arch hf, State.past, hmode]; rfl
  obtain ⟨t, ht, hout⟩ := branch_outcome (f.p.get flag) expected off f
  refine ⟨t, by rw [hi, ht], ?_⟩
  rw [hout, hp, hiByte_bne_hiByte, relativeTarget, hpc, sext16, cyclesOfBranch, htaken]
  generalize (s.pc + 2 + off.signExtend 16).toNat / 256 = targetPage
  generalize (s.pc + 2).toNat / 256 = page
  by_cases htest : s.p.get flag = expected
  · by_cases hpage : targetPage = page <;> simp [htest, hpage, realizedCycles]
  · simp [htest, realizedCycles, ExecOutcome.plain]

end

end Sys2Proof.Machine
end

section
/-! SUPPORT. The statements on the step and what it reports (spec/40_step_and_addressing.md, spec/60_exceptions.md), settled. -/

namespace Sys2Proof.Claims

open Sys2Proof.Machine

/-- Settles O44: the row the fetch finds is that of the decoded instruction, and the step runs it. -/
theorem stepRunsTheDecodedInstruction : Obligations.StepRunsTheDecodedInstruction := by
  intro s i hready hx hat
  obtain ⟨e, he, -, hm, hmode, hsize, hi⟩ := entry_of_at hat
  obtain ⟨f, hf, hstep⟩ := step_executes hready hx he
  rw [hi] at hstep
  refine ⟨f, e, ?_, he, hm, hmode, hstep, fun t => ⟨rfl, rfl, rfl⟩⟩
  rw [hf, State.fetched, hsize]
  rfl

/-- Settles O46: the step ends after the fetch of the opcode, whose one transaction is the trace. -/
theorem illegalOpcodeHaltsTheCore : Obligations.IllegalOpcodeHaltsTheCore := by
  intro s hready hx he
  obtain ⟨s1, hs1⟩ : ∃ s1, s1 = (respondTo "CPU" ⟨s.pc, s.opcode, .read⟩ s.started).setPc (s.pc + 1) := ⟨_, rfl⟩
  have h1 : s1.arch = s.pastOpcode.arch := by rw [hs1, State.setPc_arch, respondTo_arch]; rfl
  have hstep : step s = .next (illegalOpcode s.opcode s1) :=
    step_illegal hx (hs1 ▸ fetchByte_eq hready.started) ((State.cfg_of_arch h1).trans rfl ▸ he)
  refine ⟨⟨_, hstep, by rw [illegalOpcode_arch, h1]; rfl⟩, fun t ht => ?_⟩
  cases hstep.symm.trans ht
  refine ⟨rfl, ?_, fun hscoped => ?_⟩
  · rw [hs1]
    exact respondTo_event _ _ _
  · rw [hs1, respondTo_scoped (s := s.started) hscoped]
    rfl

/-- Settles O50: the eight rows are alike, and each tests its flag. -/
theorem branchCycles : Obligations.BranchCycles := by
  intro s off
  exact ⟨branch_reports 0x90 .c false rfl rfl rfl (fun _ => rfl) (beq_false _).symm,
    branch_reports 0xB0 .c true rfl rfl rfl (fun _ => rfl) (beq_true _).symm,
    branch_reports 0xD0 .z false rfl rfl rfl (fun _ => rfl) (beq_false _).symm,
    branch_reports 0xF0 .z true rfl rfl rfl (fun _ => rfl) (beq_true _).symm,
    branch_reports 0x10 .n false rfl rfl rfl (fun _ => rfl) (beq_false _).symm,
    branch_reports 0x30 .n true rfl rfl rfl (fun _ => rfl) (beq_true _).symm,
    branch_reports 0x50 .v false rfl rfl rfl (fun _ => rfl) (beq_false _).symm,
    branch_reports 0x70 .v true rfl rfl rfl (fun _ => rfl) (beq_true _).symm⟩

theorem add_toNat_page_cross (n page page' : Nat) :
    n + (true && decide (page ≠ page')).toNat = if page = page' then n else n + 1 := by
  by_cases h : page = page' <;> simp [h]

/-- Settles O51: the eight rows of LDA, of which three add a cycle on a page cross. -/
theorem loadCycles : Obligations.LoadCycles := by
  intro s
  refine ⟨fun v => load_reports 0xA9 (o := .immediate v) rfl rfl fun _ => rfl,
    fun z => load_reports 0xA5 (o := .mem (.zeroPage z)) rfl rfl fun _ => rfl,
    fun z => load_reports 0xB5 (o := .mem (.zeroPageX z)) rfl rfl fun _ => rfl,
    fun w => load_reports 0xAD (o := .mem (.absolute w)) rfl rfl fun _ => rfl, fun w => ?_, fun w => ?_,
    fun z => load_reports 0xA1 (o := .mem (.indirectX z)) rfl rfl fun _ => rfl, fun z => ?_⟩
  · rw [← add_toNat_page_cross, ← hiByte_bne_hiByte]
    exact load_reports 0xBD (o := .mem (.absoluteX w)) rfl rfl fun _ => rfl
  · rw [← add_toNat_page_cross, ← hiByte_bne_hiByte]
    exact load_reports 0xB9 (o := .mem (.absoluteY w)) rfl rfl fun _ => rfl
  · dsimp only
    rw [← add_toNat_page_cross, ← hiByte_bne_hiByte]
    exact load_reports 0xB1 (o := .mem (.indirectY z)) rfl rfl fun _ => rfl

/-- Settles O47: the interrupt selected is serviced and loses its latch; where none is, the instruction leaves the latches. -/
theorem interruptPriority : Obligations.InterruptPriority := by
  intro s hready hrun
  obtain ⟨t, ht⟩ := step_total hready
  refine ⟨t, ht, fun hnmi => ?_, fun hnmi hirq hi => ?_, fun hnmi hirq => ?_, step_latches_of_executing ht⟩
  · have hsel : selectInterrupt s = some .nmi := by simp [selectInterrupt, hnmi]
    obtain ⟨u, hu, hstep⟩ := step_services hready hrun hsel
    cases hstep.symm.trans ht
    exact ⟨rfl, (State.nmiPending_of_arch hu).trans (State.entered_nmi_nmiPending _),
      (State.irqPending_of_arch hu).trans (State.entered_nmi_irqPending _)⟩
  · have hsel : selectInterrupt s = some .irq := by simp [selectInterrupt, hnmi, hirq, hi]
    obtain ⟨u, hu, hstep⟩ := step_services hready hrun hsel
    cases hstep.symm.trans ht
    exact ⟨rfl, (State.nmiPending_of_arch hu).trans ((State.entered_irq_nmiPending _).trans hnmi),
      (State.irqPending_of_arch hu).trans (State.entered_irq_irqPending _)⟩
  · exact step_result_of_executing ht ⟨hrun, hnmi, hirq⟩

end Sys2Proof.Claims
end

section
/-! SUPPORT. The bus and the registry (spec/20_memory.md R63 to R70), and the status byte as a whole (spec/10_state.md R25, R26). -/

namespace Sys2Proof.Machine

/-! ### The bus -/

section
variable {initiator destination : String} {t : BusTransaction} {s : State} {r : Registration}

/-- A transaction to a free component is processed, and the initiator observes it (R66, R67). -/
theorem busExecute_of_free (hfind : findComponent s.registry destination = some r) (hop : t.operation ≠ .none)
    (hfree : r.inFlight = false) : busExecute initiator destination t s =
      andThen (r.handle.process t s) fun (t', s') => .next (t', respondTo initiator t' s') := by
  simp [busExecute, hfind, hop, hfree]

theorem busExecute_read_answers (hfind : findComponent s.registry destination = some r) (hfree : r.inFlight = false)
    (hmem : r.handle = .memory) (hop : t.operation = .read) :
    AnswersAs (busExecute initiator destination t s) { t with data := s.mem.read t.address } s := by
  rw [busExecute_of_free hfind (by simp [hop]) hfree, hmem]
  simp only [Component.process, hop, andThen_next]
  exact AnswersAs.intro (respondTo_arch ..)

theorem busExecute_write_answers (hfind : findComponent s.registry destination = some r) (hfree : r.inFlight = false)
    (hmem : r.handle = .memory) (hop : t.operation = .write) :
    AnswersAs (busExecute initiator destination t s) t (s.setMem (s.mem.write t.address t.data)) := by
  rw [busExecute_of_free hfind (by simp [hop]) hfree, hmem]
  simp only [Component.process, hop, andThen_next]
  exact AnswersAs.intro (respondTo_arch ..)

end

theorem busRead_answers {s : State} (h : s.MemoryReady) (addr : Word) (d : Byte) :
    AnswersAs (busExecute "CPU" "Memory" ⟨addr, d, .read⟩ s) ⟨addr, s.mem.read addr, .read⟩ s := by
  obtain ⟨r, hfind, hmem, hfree⟩ := s.memoryReady_iff.1 h
  exact busExecute_read_answers hfind hfree hmem rfl

theorem busWrite_answers {s : State} (h : s.MemoryReady) (addr : Word) (v : Byte) :
    AnswersAs (busExecute "CPU" "Memory" ⟨addr, v, .write⟩ s) ⟨addr, v, .write⟩ (s.setMem (s.mem.write addr v)) := by
  obtain ⟨r, hfind, hmem, hfree⟩ := s.memoryReady_iff.1 h
  exact busExecute_write_answers hfind hfree hmem rfl

/-! ### The registry -/

/-- An entry added at the end is found under its own name where that name was free, and hides no other. -/
theorem findComponent_append_singleton (rs : List Registration) (new : Registration) (name : String) :
    findComponent (rs ++ [new]) name =
      (findComponent rs name).or (if new.name = name then some new else none) := by
  induction rs with
  | nil => rfl
  | cons r rs ih =>
    rw [List.cons_append, findComponent, findComponent, ih]
    split <;> rfl

/-! ### The status byte -/

/-- Unused reads 1 (R26). -/
@[simp] theorem Status.toByte_bit5 (p : Status) : p.toByte[5] = true := by
  rcases p with ⟨c, z, i, d, b, v, n⟩
  cases c <;> cases z <;> cases i <;> cases d <;> cases b <;> cases v <;> cases n <;> rfl

/-- A byte unpacked and packed again has Unused set and is the same otherwise (R26). -/
theorem Status.toByte_ofByte (v : Byte) : (Status.ofByte v).toByte = v ||| 0x20 := by
  revert v
  decide +kernel

/-- The restore of PLP and RTI as the byte formula of R223 and R241. -/
theorem Status.toByte_restore (p : Status) (v : Byte) : (p.restore v).toByte = (v &&& 0xCF) ||| (p.toByte &&& 0x30) := by
  ext j hj
  interval_cases j <;> simp [Status.restore]

end Sys2Proof.Machine
end

section
/-! SUPPORT. The statements on the status byte, the bus, the registry, reset and interrupt requests, settled. -/

namespace Sys2Proof.Claims

open Sys2Proof.Machine

/-- Settles O6: each flag's mask is its bit of R25. -/
theorem statusByteLayout : Obligations.StatusByteLayout := by
  intro p
  simp [BitVec.getLsbD_eq_getElem]

/-- Settles O7: unpacking drops bit 5 alone, and packing sets it. -/
theorem hostWriteOfPKeepsUnusedSet : Obligations.HostWriteOfPKeepsUnusedSet := fun v _ => ⟨Status.toByte_ofByte v, rfl⟩

/-- Settles O13: the three checks in order, then what the component's `process` does. -/
theorem executeRoutesToTheDestination : Obligations.ExecuteRoutesToTheDestination := by
  intro initiator destination t s
  refine ⟨fun hfind => ?_, fun r hfind hop => ?_, fun r hfind hop hbusy => ?_, fun r hfind hop hfree hcpu => ?_,
    fun r hfind hfree hmem hop => busExecute_read_answers hfind hfree hmem hop,
    fun r hfind hfree hmem hop => busExecute_write_answers hfind hfree hmem hop⟩
  · simp [busExecute, hfind]
  · simp [busExecute, hfind, hop]
  · simp [busExecute, hfind, hop, hbusy]
  · rw [busExecute_of_free hfind hop hfree, hcpu]
    rfl

/-- Settles O14: the write leaves the one cell changed, and the read answers the cell. -/
theorem busRoundTrip : Obligations.BusRoundTrip := by
  rintro addr other v d s t hready hwf ⟨r, hwrite⟩
  obtain ⟨-, ht⟩ := (busWrite_answers hready addr v).eq hwrite
  have hmem : t.mem = s.mem.write addr v := State.mem_of_arch ht
  have hready' : t.MemoryReady := State.memoryReady_of_registry (State.registry_of_arch ht) hready
  refine ⟨?_, fun hne => ?_⟩
  · obtain ⟨u, hu, -⟩ := busRead_answers hready' addr d
    exact ⟨u, by rw [hu, hmem, Memory.read_write_same hwf]⟩
  · obtain ⟨u, hu, -⟩ := busRead_answers hready' other d
    exact ⟨u, by rw [hu, hmem, Memory.read_write_ne hwf v hne]⟩

/-- Settles O15: a free name is added at the end of the registry, where no other name finds it. -/
theorem registerRejectsDuplicates : Obligations.RegisterRejectsDuplicates := by
  intro name handle s
  refine ⟨fun r hfind => by rw [registerComponent, hfind], fun hfind => ?_⟩
  refine ⟨s.setRegistry (s.registry ++ [⟨name, handle, false⟩]), by rw [registerComponent, hfind], rfl, ?_, fun other hne => ?_⟩
  · simp [findComponent_append_singleton, hfind]
  · simp [findComponent_append_singleton, hne.symm]

/-- Settles O53: the vector is read after the registers, the flags and the latches are set; memory is not written. -/
theorem resetRestoresPowerOnValues : Obligations.ResetRestoresPowerOnValues := by
  intro s hready
  have hinit : s.clearObs.initRegisters.MemoryReady := State.memoryReady_of_registry rfl hready
  refine (read16_answers hinit resetVector).andThen fun t ht => CompletesAs.intro ?_
  rw [State.setRun_arch, State.setPc_arch, ht]
  rfl

/-- Settles O54: each kind has its own latch, and setting it again changes nothing. -/
theorem requestSetsOneLatch : Obligations.RequestSetsOneLatch := fun _ =>
  ⟨rfl, rfl, fun k => by cases k <;> rfl⟩

end Sys2Proof.Claims
end

section
/-! SUPPORT. The effects of the meanings as the statements write them: record updates of the start state, Z and N by `znOf`, shifts by arithmetic. -/

namespace Sys2Proof.Claims

open Sys2Proof.Machine

/-- SetZN as the statements write it: bit 7 is the sign bit (R125). -/
theorem setZN_eq_znOf (p : Status) (v : Byte) : p.setZN v = znOf p v := by
  rw [Status.setZN, BitVec.msb_eq_getLsbD_last, znOf]

theorem shifted_eq_shiftedP (p : Status) (r : Byte) (c : Bool) : p.shifted r c = shiftedP p r c := by
  rw [Status.shifted, setZN_eq_znOf, shiftedP]

/-- An instruction that writes a register and sets Z and N from the value (R125). -/
theorem gives_setReg_znOf {i : Instr} {s : State} {r : Register} {v : Byte}
    (hc : CompletesAs (exec i s) ((s.setReg r v).setZN v)) : Gives i s ((s.setReg r v).setP (znOf s.p v)) := by
  rwa [State.setZN, State.setReg_p, setZN_eq_znOf] at hc

/-- An instruction that leaves memory as one write does, changes no other byte. -/
theorem storesOnly {i : Instr} {s e : State} {addr : Word} {v : Byte} (hg : Gives i s e) (hmem : e.mem = s.mem.write addr v) :
    StoresOnly i s addr v := by
  intro hwf t ht b
  rw [State.mem_of_arch (hg.eq ht), hmem, Memory.read_write hwf]

/-! ### Loads, stores and the memory cell -/

section
variable {i : Instr} {s : State} (h : s.MemoryReady)
include h

theorem loads (r : Register) {o : ReadOperand} (hi : exec i s = load r o s) :
    Gives i s ((s.setReg r (o.value s)).setP (znOf s.p (o.value s))) :=
  gives_setReg_znOf (hi ▸ load_completes h r o)

theorem loadsA {o : ReadOperand} (hi : exec i s = load .a o s) : LoadsA i o s := loads h .a hi

theorem loadsX {o : ReadOperand} (hi : exec i s = load .x o s) : LoadsX i o s := loads h .x hi

theorem loadsY {o : ReadOperand} (hi : exec i s = load .y o s) : LoadsY i o s := loads h .y hi

theorem stores (r : Register) {m : MemOperand} (hi : exec i s = store r m s) : Stores i m (s.reg r) s := by
  have hg : CompletesAs (exec i s) (s.setMem (s.mem.write (m.address s) (s.reg r))) := hi ▸ store_completes h r m
  exact ⟨effectiveAddress_answers h m, hg, storesOnly hg rfl⟩

theorem modifies {m : MemOperand} {f : Byte → Byte} {g : Byte → Status}
    (hg : Gives i s ((s.setMem (s.mem.write (m.address s) (f (s.mem.read (m.address s))))).setP (g (s.mem.read (m.address s))))) :
    Modifies i m f g s :=
  ⟨effectiveAddress_answers h m, hg, storesOnly hg rfl⟩

theorem incs {m : MemOperand} (hi : exec i s = adjustMemory 1 m s) :
    Modifies i m (· + 1) (fun v => znOf s.p (v + 1)) s := by
  have hg : Gives i s _ := hi ▸ adjustMemory_completes h 1 m
  rw [setZN_eq_znOf] at hg
  exact modifies h hg

theorem decs {m : MemOperand} (hi : exec i s = adjustMemory (-1) m s) :
    Modifies i m (· - 1) (fun v => znOf s.p (v - 1)) s := by
  have hg : Gives i s _ := hi ▸ adjustMemory_completes h (-1) m
  rw [setZN_eq_znOf, ← sub_eq_add_neg] at hg
  exact modifies h hg

/-! ### Logic and comparison -/

theorem combines {f : Byte → Byte → Byte} {o : ReadOperand} (hi : exec i s = logical f o s) :
    Combines i (f s.a (o.value s)) s :=
  gives_setReg_znOf (r := .a) (hi ▸ logical_completes h f o)

theorem compares (r : Register) {o : ReadOperand} (hi : exec i s = compareWith r o s) : Compares i (s.reg r) (o.value s) s := by
  have hg : Gives i s _ := hi ▸ compareWith_completes h r o
  rwa [Status.compare, BitVec.msb_eq_getLsbD_last] at hg

/-! ### Shifts -/

/-- A shift of a memory cell, given what its function is by arithmetic. -/
theorem shiftsM {g : Byte → Bool → Byte × Bool} {f : Byte → Byte} {out : Byte → Bool} (hg : ∀ v, g v s.p.c = (f v, out v))
    {m : MemOperand} (hi : exec i s = shiftMemory g m s) : ShiftsM i m f out s := by
  have hc : Gives i s _ := hi ▸ shiftMemory_completes h g m
  rw [hg, shifted_eq_shiftedP] at hc
  exact modifies h hc

end

/-- A shift of A, given what its function is by arithmetic. -/
theorem shiftsA {i : Instr} {s : State} {g : Byte → Bool → Byte × Bool} {f : Byte → Byte} {out : Byte → Bool}
    (hg : g s.a s.p.c = (f s.a, out s.a)) (hi : exec i s = shiftA g s) : ShiftsA i f out s := by
  have hc : CompletesAs (exec i s) ((s.setA (g s.a s.p.c).1).setP (s.p.shifted (g s.a s.p.c).1 (g s.a s.p.c).2)) :=
    hi ▸ complete_completes _ rfl
  rwa [hg, shifted_eq_shiftedP] at hc

theorem aslByte_eq (c : Bool) (v : Byte) : aslByte v c = (aslOf v, topOut v) := by
  revert c v
  decide +kernel

theorem lsrByte_eq (c : Bool) (v : Byte) : lsrByte v c = (lsrOf v, lowOut v) := by
  revert c v
  decide +kernel

theorem rolByte_eq (c : Bool) (v : Byte) : rolByte v c = (rolOf c v, topOut v) := by
  revert c v
  decide +kernel

theorem rorByte_eq (c : Bool) (v : Byte) : rorByte v c = (rorOf c v, lowOut v) := by
  revert c v
  decide +kernel

/-! ### The registers -/

theorem adjusts (r : Register) {i : Instr} {s : State} {delta : Byte} (hi : exec i s = adjustRegister delta r s) :
    Gives i s ((s.setReg r (s.reg r + delta)).setP (znOf s.p (s.reg r + delta))) :=
  gives_setReg_znOf (hi ▸ complete_completes _ rfl)

theorem transfers (source target : Register) {i : Instr} {s : State} (hi : exec i s = transfer source target s) :
    Gives i s ((s.setReg target (s.reg source)).setP (znOf s.p (s.reg source))) :=
  gives_setReg_znOf (hi ▸ complete_completes _ rfl)

end Sys2Proof.Claims
end

section
/-! SUPPORT. The statements on the data instructions (spec/41_load_store.md to spec/46_compare.md), settled. -/

namespace Sys2Proof.Claims

open Sys2Proof.Machine

/-- Settles O16: each of the 18 forms is a load of its operand. -/
theorem loadsWriteRegisterAndZN : Obligations.LoadsWriteRegisterAndZN := fun _ h =>
  ⟨fun _ => loadsA h rfl, fun _ => loadsA h rfl, fun _ => loadsA h rfl, fun _ => loadsA h rfl, fun _ => loadsA h rfl,
    fun _ => loadsA h rfl, fun _ => loadsA h rfl, fun _ => loadsA h rfl, fun _ => loadsX h rfl, fun _ => loadsX h rfl,
    fun _ => loadsX h rfl, fun _ => loadsX h rfl, fun _ => loadsX h rfl, fun _ => loadsY h rfl, fun _ => loadsY h rfl,
    fun _ => loadsY h rfl, fun _ => loadsY h rfl, fun _ => loadsY h rfl⟩

/-- Settles O17: each of the 13 forms is a store of its register. -/
theorem storesWriteOneByte : Obligations.StoresWriteOneByte := fun _ h =>
  ⟨fun _ => stores h .a rfl, fun _ => stores h .a rfl, fun _ => stores h .a rfl, fun _ => stores h .a rfl,
    fun _ => stores h .a rfl, fun _ => stores h .a rfl, fun _ => stores h .a rfl, fun _ => stores h .x rfl,
    fun _ => stores h .x rfl, fun _ => stores h .x rfl, fun _ => stores h .y rfl, fun _ => stores h .y rfl,
    fun _ => stores h .y rfl⟩

/-- Settles O21: each of the 24 forms combines A with its operand. -/
theorem logicalWritesAAndZN : Obligations.LogicalWritesAAndZN := by
  intro s h
  have and_ {i o} (hi : exec i s = logical (fun a m => a &&& m) o s) := combines h hi
  have or_ {i o} (hi : exec i s = logical (fun a m => a ||| m) o s) := combines h hi
  have xor_ {i o} (hi : exec i s = logical (fun a m => a ^^^ m) o s) := combines h hi
  exact ⟨fun v => and_ (o := .immediate v) rfl, fun _ => and_ rfl, fun _ => and_ rfl, fun _ => and_ rfl,
    fun _ => and_ rfl, fun _ => and_ rfl, fun _ => and_ rfl, fun _ => and_ rfl,
    fun v => or_ (o := .immediate v) rfl, fun _ => or_ rfl, fun _ => or_ rfl, fun _ => or_ rfl,
    fun _ => or_ rfl, fun _ => or_ rfl, fun _ => or_ rfl, fun _ => or_ rfl,
    fun v => xor_ (o := .immediate v) rfl, fun _ => xor_ rfl, fun _ => xor_ rfl, fun _ => xor_ rfl,
    fun _ => xor_ rfl, fun _ => xor_ rfl, fun _ => xor_ rfl, fun _ => xor_ rfl⟩

/-- Settles O22: both forms are BIT of a memory operand. -/
theorem bitTestsMemoryAgainstA : Obligations.BitTestsMemoryAgainstA := fun _ h =>
  ⟨fun z => bitTest_completes h (.zeroPage z), fun w => bitTest_completes h (.absolute w)⟩

/-- Settles O23: each of the 8 forms adjusts the byte at its operand's address. -/
theorem incDecMemory : Obligations.IncDecMemory := fun _ h =>
  ⟨fun _ => incs h rfl, fun _ => incs h rfl, fun _ => incs h rfl, fun _ => incs h rfl, fun _ => decs h rfl,
    fun _ => decs h rfl, fun _ => decs h rfl, fun _ => decs h rfl⟩

/-- Settles O27: each of the 14 forms compares its register with its operand. -/
theorem comparesWriteCZN : Obligations.ComparesWriteCZN := fun _ h =>
  ⟨fun v => compares h .a (o := .immediate v) rfl, fun _ => compares h .a rfl, fun _ => compares h .a rfl,
    fun _ => compares h .a rfl, fun _ => compares h .a rfl, fun _ => compares h .a rfl, fun _ => compares h .a rfl,
    fun _ => compares h .a rfl, fun v => compares h .x (o := .immediate v) rfl, fun _ => compares h .x rfl,
    fun _ => compares h .x rfl, fun v => compares h .y (o := .immediate v) rfl, fun _ => compares h .y rfl,
    fun _ => compares h .y rfl⟩

/-- Settles O26: each of the 16 forms shifts the byte at its operand's address, by the arithmetic of its function. -/
theorem shiftsOfMemory : Obligations.ShiftsOfMemory := by
  intro s h
  have asl {i m} (hi : exec i s = shiftMemory aslByte m s) := shiftsM h (aslByte_eq s.p.c) hi
  have lsr {i m} (hi : exec i s = shiftMemory lsrByte m s) := shiftsM h (lsrByte_eq s.p.c) hi
  have rol {i m} (hi : exec i s = shiftMemory rolByte m s) := shiftsM h (rolByte_eq s.p.c) hi
  have ror {i m} (hi : exec i s = shiftMemory rorByte m s) := shiftsM h (rorByte_eq s.p.c) hi
  exact ⟨fun _ => asl rfl, fun _ => asl rfl, fun _ => asl rfl, fun _ => asl rfl, fun _ => lsr rfl, fun _ => lsr rfl,
    fun _ => lsr rfl, fun _ => lsr rfl, fun _ => rol rfl, fun _ => rol rfl, fun _ => rol rfl, fun _ => rol rfl,
    fun _ => ror rfl, fun _ => ror rfl, fun _ => ror rfl, fun _ => ror rfl⟩

/-- Settles O25: the four shift functions by arithmetic, applied to A. -/
theorem shiftsOfA : Obligations.ShiftsOfA := fun _ =>
  ⟨shiftsA (aslByte_eq _ _) rfl, shiftsA (lsrByte_eq _ _) rfl, shiftsA (rolByte_eq _ _) rfl, shiftsA (rorByte_eq _ _) rfl⟩

/-- Settles O24: a register adjusted by 1 or by -1; subtraction of 1 is addition of -1. -/
theorem incDecRegister : Obligations.IncDecRegister := by
  intro s
  refine ⟨adjusts .x rfl, adjusts .y rfl, ?_, ?_⟩
  · rw [sub_eq_add_neg]
    exact adjusts .x rfl
  · rw [sub_eq_add_neg]
    exact adjusts .y rfl

/-- Settles O33: each writes its one flag. -/
theorem flagInstructions : Obligations.FlagInstructions := fun _ =>
  ⟨complete_completes _ rfl, complete_completes _ rfl, complete_completes _ rfl, complete_completes _ rfl,
    complete_completes _ rfl, complete_completes _ rfl, complete_completes _ rfl⟩

/-- Settles O36: NOP's meaning is to complete. -/
theorem nopChangesNothing : Obligations.NopChangesNothing := fun _ => complete_completes _ rfl

/-- Settles O37: five are transfers that set Z and N, TXS writes S alone. -/
theorem transfersCopyRegisters : Obligations.TransfersCopyRegisters := fun _ _ =>
  ⟨transfers .a .x rfl, transfers .a .y rfl, transfers .x .a rfl, transfers .y .a rfl,
    transfers .s .x rfl, complete_completes _ rfl⟩

end Sys2Proof.Claims
end

section
/-! SUPPORT. The stack through JSR, BRK and an interrupt entry and back (spec/40_step_and_addressing.md R126 to R129, spec/49_system_transfer.md R240,
R241, spec/60_exceptions.md R265, R267). -/

namespace Sys2Proof.Machine

open Sys2Proof.Claims

/-- A push as one update of the start state (R126). -/
theorem State.pushed_eq (s : State) (v : Byte) : s.pushed v = { s with mem := s.mem.write (slot s 0) v, sp := s.sp - 1 } := by
  rw [State.pushed, State.setMem, State.setSp, slot_eq_stackAddress, sub_zero]

/-- The three pushes of a frame as one update of the start state (R240, R265). -/
theorem State.framed_eq (s : State) (ret : Word) (status : Byte) :
    s.framed ret status = { s with mem := pushedFrame s ret status, sp := s.sp - 3 } := by
  have hsp : s.sp - 2 - 1 = s.sp - 3 := by bv_omega
  rw [State.framed, State.pushed_pushed_eq, State.pushed, State.setMem, State.setSp, pushedFrame, slot_eq_stackAddress]
  simp only [hsp]

theorem add_one_add_one_add_one (b : Byte) : b + 1 + 1 + 1 = b + 3 := by
  bv_omega

theorem State.top_pulled_pulled_eq_read_slotUp (s : State) : s.pulled.pulled.top = s.mem.read (slotUp s 3) := by
  rw [State.top, State.pulled_mem, State.pulled_mem, State.pulled_sp, State.pulled_sp, add_one_add_one_add_one,
    slotUp_eq_stackAddress]

/-! ### What memory holds after the pushes -/

theorem read_pushedWord {s : State} (hwf : s.mem.wf = true) (w : Word) (b : Word) : (pushedWord s w).read b =
    if b = slot s 1 then loByte w else if b = slot s 0 then hiByte w else s.mem.read b := by
  rw [pushedWord, Memory.read_write (Memory.wf_write hwf _ _), Memory.read_write hwf]
  rfl

theorem read_pushedFrame_of_ne {s : State} (hwf : s.mem.wf = true) (ret : Word) (status : Byte) {b : Word} (h0 : b ≠ slot s 0)
    (h1 : b ≠ slot s 1) (h2 : b ≠ slot s 2) : (pushedFrame s ret status).read b = s.mem.read b := by
  have hword : (pushedWord s ret).wf = true := Memory.wf_write (Memory.wf_write hwf _ _) _ _
  rw [pushedFrame, Memory.read_write_ne hword _ h2, read_pushedWord hwf, if_neg h1, if_neg h0]

/-! ### What a pull finds -/

/-- What a pull reads: memory and S are the same in both states. -/
def State.SameStack (s t : State) : Prop := s.mem = t.mem ∧ s.sp = t.sp

theorem State.SameStack.of_arch {s t u : State} (hmem : u.mem = t.mem) (hsp : u.sp = t.sp) (ht : t.arch = s.arch) :
    u.SameStack s :=
  ⟨hmem.trans (State.mem_of_arch ht), hsp.trans (State.sp_of_arch ht)⟩

theorem State.SameStack.pulled {s t : State} (h : s.SameStack t) : s.pulled.SameStack t.pulled :=
  ⟨h.1, congrArg (· + 1) h.2⟩

theorem State.SameStack.top {s t : State} (h : s.SameStack t) : s.top = t.top := by
  rw [State.top, State.top, h.1, h.2]

/-- What lay below the top of the stack lies two below the byte pushed. -/
theorem State.top_pulled_pulled_pushed {s : State} (hwf : s.mem.wf = true) (v : Byte) :
    (s.pushed v).pulled.pulled.top = s.pulled.top := by
  have hsp : (s.pushed v).pulled.pulled.sp = s.sp + 1 := by simp
  have hne : s.sp + 1 + 1 ≠ s.sp := by bv_omega
  rw [State.top, State.top, hsp, State.pulled_mem, State.pulled_mem, State.read_stackAddress_pushed_of_ne hwf v hne,
    State.pulled_sp, State.pulled_mem]

section
variable {s u : State} {w : Word} {status : Byte} (hwf : s.mem.wf = true)
include hwf

/-- Two pulls after two pushes find the word (R128, R129). -/
theorem State.pull_word (hu : u.SameStack ((s.pushed (hiByte w)).pushed (loByte w))) : ofBytes u.pulled.top u.top = w := by
  have hwf' := State.wf_pushed hwf (hiByte w)
  rw [hu.top, hu.pulled.top, State.top_pushed hwf', State.top_pulled_pushed hwf', State.top_pushed hwf, ofBytes_hiByte_loByte]

/-- Three pulls after a frame was pushed find the status byte, then the word (R241, R265). -/
theorem State.pull_frame (hu : u.SameStack (s.framed w status)) :
    u.top = status ∧ ofBytes u.pulled.pulled.top u.pulled.top = w := by
  have hwf1 := State.wf_pushed hwf (hiByte w)
  have hwf2 := State.wf_pushed hwf1 (loByte w)
  rw [State.framed] at hu
  refine ⟨hu.top.trans (State.top_pushed hwf2 _), ?_⟩
  rw [hu.pulled.top, hu.pulled.pulled.top, State.top_pulled_pushed hwf2, State.top_pulled_pulled_pushed hwf2,
    State.top_pushed hwf1, State.top_pulled_pushed hwf1, State.top_pushed hwf, ofBytes_hiByte_loByte]

end

end Sys2Proof.Machine
end

section
/-! SUPPORT. The statements on branches, jumps, the stack and the returns (spec/47_branch_jump.md to spec/49_system_transfer.md,
spec/60_exceptions.md), settled. -/

namespace Sys2Proof.Claims

open Sys2Proof.Machine

/-- A branch moves PC by the signed offset if its test passes (R200). -/
theorem branches {i : Instr} {s : State} {test flag expected : Bool} {off : Byte} (hi : exec i s = branch flag expected off s)
    (htest : test = (flag == expected)) : Branches i test off s := by
  have hb : Gives i s _ := hi ▸ branch_completes flag expected off s
  rw [htest, Branches]
  cases ht : flag == expected with
  | true =>
    rw [if_pos (beq_iff_eq.1 ht)] at hb
    exact hb
  | false =>
    rw [if_neg (beq_eq_false_iff_ne.1 ht)] at hb
    exact hb

/-- Settles O28: each branch tests its flag for its value. -/
theorem branchesMoveOnlyPc : Obligations.BranchesMoveOnlyPc := fun _ _ =>
  ⟨branches rfl (beq_false _).symm, branches rfl (beq_true _).symm, branches rfl (beq_false _).symm,
    branches rfl (beq_true _).symm, branches rfl (beq_false _).symm, branches rfl (beq_true _).symm,
    branches rfl (beq_false _).symm, branches rfl (beq_true _).symm⟩

/-- Settles O29: the target is the operand, or the word at it. -/
theorem jumpsSetPc : Obligations.JumpsSetPc := fun _ w =>
  ⟨complete_completes _ rfl, fun h => exec_completes (.jmpInd w) h⟩

/-- Settles O30: two pushes as one update, then the jump. -/
theorem jsrPushesReturnAddress : Obligations.JsrPushesReturnAddress := by
  intro s w h
  have hg : Gives (.jsr w) s { s with mem := pushedWord s (s.pc - 1), sp := s.sp - 2, pc := w } := by
    refine (exec_completes (.jsr w) h).congr ?_
    show ((((s.pushed (hiByte (s.pc - 1))).pushed (loByte (s.pc - 1)))).setPc w).arch = _
    rw [State.pushed_pushed_eq]
    rfl
  refine ⟨hg, fun hwf t ht b => ?_⟩
  rw [State.mem_of_arch (hg.eq ht)]
  exact read_pushedWord hwf _ b

/-- Settles O31: two pulls as one update, then PC past the word. -/
theorem rtsReturnsPastTheCall : Obligations.RtsReturnsPastTheCall := by
  intro s h
  refine (exec_completes .rts h).congr ?_
  show (s.pulled.pulled.setPc (ofBytes s.pulled.top s.top + 1)).arch = _
  rw [State.pulled_pulled_eq, State.top_pulled_eq_read_slotUp]
  rfl

/-- Settles O32: a push is one update, a pull reads the slot above S, and the restored P is the byte formula of R223. -/
theorem stackInstructions : Obligations.StackInstructions := by
  intro s h
  have pha : Gives .pha s (s.pushed s.a) := exec_completes .pha h
  have php : Gives .php s (s.pushed (s.p.toByte ||| 0x30)) := exec_completes .php h
  have pla : CompletesAs (exec .pla s) ((s.pulled.setA s.top).setP (s.p.setZN s.top)) := exec_completes .pla h
  rw [State.pushed_eq] at pha php
  rw [setZN_eq_znOf] at pla
  exact ⟨pha, storesOnly pha rfl, php, storesOnly php rfl, pla, s.p.restore s.top, exec_completes .plp h, rfl,
    Status.toByte_restore s.p s.top⟩

/-- Settles O34: the frame as one update; memory changes in its three slots alone. -/
theorem brkPushesAndHalts : Obligations.BrkPushesAndHalts := by
  intro s h
  have hg : Gives .brk s s.broken := exec_completes .brk h
  rw [State.broken, State.framed_eq] at hg
  refine ⟨hg, fun hwf t ht b h0 h1 h2 => ?_⟩
  rw [State.mem_of_arch (hg.eq ht)]
  exact read_pushedFrame_of_ne hwf _ _ h0 h1 h2

/-- Settles O35: three pulls as one update, and the restored P as the byte formula of R241. -/
theorem rtiRestoresPAndPc : Obligations.RtiRestoresPAndPc := by
  intro s h
  refine ⟨s.p.restore s.top, ?_, rfl, Status.toByte_restore s.p s.top⟩
  have hg : Gives .rti s s.returned := exec_completes .rti h
  rw [State.returned, State.top_pulled_pulled_eq_read_slotUp, State.top_pulled_eq_read_slotUp] at hg
  refine hg.congr ?_
  rw [← add_one_add_one_add_one]
  rfl

/-- Settles O41: RTS pulls the word JSR pushed, and that word plus 1 is the post-fetch PC. -/
theorem rtsUndoesJsr : Obligations.RtsUndoesJsr := by
  intro s t u w hwf hjsr hready hmem hsp
  have hstack : u.SameStack ((s.pushed (hiByte (s.pc - 1))).pushed (loByte (s.pc - 1))) :=
    .of_arch (s := (Meaning.call w).effect s) hmem hsp (exec_next hjsr)
  have hg : Gives .rts u (u.pulled.pulled.setPc (ofBytes u.pulled.top u.top + 1)) := exec_completes .rts hready
  have hu : u.sp + 1 + 1 = s.sp := by rw [hstack.2]; simp
  rw [State.pull_word hwf hstack, sub_add_cancel] at hg
  rw [← hu]
  exact hg

/-- Settles O42: a pull right after a push finds the byte pushed, at the S it started from. -/
theorem pullUndoesPush : Obligations.PullUndoesPush := by
  intro s t u hwf hready hmem hsp
  refine ⟨fun hphp => ?_, fun hpha => ?_⟩
  · have hstack : u.SameStack (s.pushed (s.p.toByte ||| 0x30)) :=
      .of_arch (s := (Meaning.push fun s => s.p.toByte ||| 0x30).effect s) hmem hsp (exec_next hphp)
    have hg : Gives .plp u (u.pulled.setP (u.p.restore u.top)) := exec_completes .plp hready
    have hu : u.sp + 1 = s.sp := by rw [hstack.2]; simp
    rw [hstack.top, State.top_pushed hwf, Status.restore_or_break] at hg
    rw [← hu]
    exact hg
  · have hstack : u.SameStack (s.pushed s.a) := .of_arch (s := (Meaning.push State.a).effect s) hmem hsp (exec_next hpha)
    have hg : CompletesAs (exec .pla u) ((u.pulled.setA u.top).setP (u.p.setZN u.top)) := exec_completes .pla hready
    have hu : u.sp + 1 = s.sp := by rw [hstack.2]; simp
    rw [hstack.top, State.top_pushed hwf, setZN_eq_znOf] at hg
    rw [← hu]
    exact hg

/-- Settles O48: the frame as one update, then the vector read from the memory it left. -/
theorem interruptEntry : Obligations.InterruptEntry := by
  intro s h
  have hentry (k : InterruptKind) : CompletesAs (serviceInterrupt k s) (s.entered k) := serviceInterrupt_completes h k
  simp only [State.entered, State.framed_eq] at hentry
  exact ⟨hentry .nmi, hentry .irq⟩

/-- Settles O49: RTI pulls the frame the entry pushed. -/
theorem rtiResumesInterruptedProgram : Obligations.RtiResumesInterruptedProgram := by
  intro k s t u hwf hentry hready hmem hsp
  obtain ⟨-, ht⟩ := serviceInterrupt_next hentry
  have hstack : u.SameStack (s.framed s.pc s.p.toByte) :=
    ⟨hmem.trans ((State.mem_of_arch ht).trans (State.entered_mem s k)), hsp.trans ((State.sp_of_arch ht).trans (State.entered_sp s k))⟩
  obtain ⟨hstatus, hword⟩ := State.pull_frame hwf hstack
  have hu : u.sp + 1 + 1 + 1 = s.sp := by rw [hstack.2]; simp
  have hg : Gives .rti u u.returned := exec_completes .rti hready
  rw [State.returned, hstatus, hword, Status.restore_toByte] at hg
  rw [← hu]
  exact hg

end Sys2Proof.Claims
end

section
/-! SUPPORT. ADC and SBC over the integers, binary and decimal (spec/42_arithmetic.md R150 to R155). -/

namespace Sys2Proof.Claims

open Sys2Proof.Machine

/-! ### Binary -/

/-- V is the signed overflow (R152). -/
theorem addBinary_overflow (a m : Byte) (c : Bool) : (addBinary a m c).overflow =
    decide (a.toInt + m.toInt + c.toNat < -128 ∨ 127 < a.toInt + m.toInt + c.toNat) := by
  have ha := a.isLt
  have hm := m.isLt
  have hc := c.toNat_le
  rw [Bool.eq_iff_iff]
  simp only [addBinary, BitVec.msb_eq_decide, BitVec.toInt_eq_toNat_cond, BitVec.toNat_ofNat, Bool.and_eq_true, beq_iff_eq,
    bne_iff_ne, decide_eq_decide, decide_eq_true_eq, ne_eq]
  split <;> split <;> omega

theorem xor_allOnes_toNat (m : Byte) : (m ^^^ 0xFF).toNat = 255 - m.toNat := by
  rw [show (0xFF : Byte) = BitVec.allOnes 8 from rfl, BitVec.xor_allOnes, BitVec.toNat_not]

theorem xor_allOnes_toInt (m : Byte) : (m ^^^ 0xFF).toInt = -m.toInt - 1 := by
  have hm := m.isLt
  rw [BitVec.toInt_eq_toNat_cond, BitVec.toInt_eq_toNat_cond, xor_allOnes_toNat]
  split <;> split <;> omega

/-- The difference of R153 over the integers: the complement adds the inverted borrow. -/
theorem subBinary_r (a m : Byte) (c : Bool) :
    (subBinary a m c).r = BitVec.ofInt 8 ((a.toNat : Int) - m.toNat - (1 - c.toNat)) := by
  have hm := m.isLt
  apply BitVec.eq_of_toNat_eq
  simp only [subBinary, addBinary, xor_allOnes_toNat, BitVec.toNat_ofNat, BitVec.toNat_ofInt]
  omega

theorem subBinary_carry (a m : Byte) (c : Bool) :
    (subBinary a m c).carry = decide ((0 : Int) ≤ (a.toNat : Int) - m.toNat - (1 - c.toNat)) := by
  have hm := m.isLt
  simp only [subBinary, addBinary, xor_allOnes_toNat, decide_eq_decide]
  omega

theorem subBinary_overflow (a m : Byte) (c : Bool) : (subBinary a m c).overflow =
    decide (a.toInt - m.toInt - (1 - c.toNat) < -128 ∨ 127 < a.toInt - m.toInt - (1 - c.toNat)) := by
  rw [subBinary, addBinary_overflow, xor_allOnes_toInt, decide_eq_decide]
  omega

theorem binary_eq (p : Status) (res : BinaryResult) :
    p.binary res = { znOf p res.r with c := res.carry, v := res.overflow } := by
  rw [Status.binary, setZN_eq_znOf]

theorem addToA_binary {s : State} (hd : s.p.d = false) (m : Byte) : s.addToA m = addsBinary s m := by
  rw [State.addToA, hd, if_neg Bool.false_ne_true]
  dsimp only
  rw [binary_eq, addBinary_overflow]
  rfl

theorem subFromA_binary {s : State} (hd : s.p.d = false) (m : Byte) : s.subFromA m = subtractsBinary s m := by
  rw [State.subFromA, hd, if_neg Bool.false_ne_true]
  dsimp only
  rw [binary_eq, subBinary_r, subBinary_carry, subBinary_overflow]
  rfl

/-! ### Decimal -/

theorem validBcd_iff (b : Byte) : validBcd b = true ↔ IsBcd b := by
  rw [validBcd, Bool.and_eq_true, decide_eq_true_iff, decide_eq_true_iff]
  rfl

theorem validBcd_and_iff (a m : Byte) : (validBcd a && validBcd m) = true ↔ IsBcd a ∧ IsBcd m := by
  rw [Bool.and_eq_true, validBcd_iff, validBcd_iff]

theorem decimalValue_eq (b : Byte) : decimalValue b = decOf b := by
  simp [decimalValue, decOf, highNibble, lowNibble]

/-- `bcd` of a number modulo 100 (R154, R155). -/
theorem decimalByte_eq (t : Int) : decimalByte t = bcdOf (t % 100).toNat := by
  apply BitVec.eq_of_toNat_eq
  simp only [decimalByte, bcdOf, BitVec.toNat_ofInt, BitVec.toNat_ofNat]
  omega

theorem decimal_decimalResult (p : Status) (r : Byte) (carry : Bool) :
    p.decimal (decimalResult r carry) = { znOf p r with c := carry } := by
  rw [Status.decimal, decimalResult, BitVec.msb_eq_getLsbD_last, znOf]

theorem addDecimal_of_bcd {a m : Byte} (ha : IsBcd a) (hm : IsBcd m) (c : Bool) : addDecimal a m c =
    decimalResult (decimalByte (decimalValue a + decimalValue m + c.toNat))
      (decide (99 < decimalValue a + decimalValue m + c.toNat)) := by
  have hbyte : ((decOf a + decOf m + c.toNat : Int) % 100).toNat = (decOf a + decOf m + c.toNat) % 100 := by omega
  have hcarry : (99 < (decOf a + decOf m + c.toNat : Int)) = (decOf a + decOf m + c.toNat > 99) := by
    rw [eq_iff_iff]
    omega
  rw [addDecimal, if_pos ((validBcd_and_iff a m).2 ⟨ha, hm⟩)]
  simp only [decimalValue_eq, decimalByte_eq, hbyte, hcarry]

theorem subDecimal_of_bcd {a m : Byte} (ha : IsBcd a) (hm : IsBcd m) (c : Bool) : subDecimal a m c =
    decimalResult (decimalByte (decimalValue a - decimalValue m - (1 - c.toNat)))
      (decide (0 ≤ decimalValue a - decimalValue m - (1 - c.toNat))) := by
  rw [subDecimal, if_pos ((validBcd_and_iff a m).2 ⟨ha, hm⟩), decimalValue_eq, decimalValue_eq, decimalByte_eq]

theorem addDecimal_of_not_bcd {a m : Byte} (h : ¬ (IsBcd a ∧ IsBcd m)) (c : Bool) :
    addDecimal a m c = Config.decimalInvalid .add a m c := by
  rw [addDecimal, if_neg ((validBcd_and_iff a m).not.2 h)]

theorem subDecimal_of_not_bcd {a m : Byte} (h : ¬ (IsBcd a ∧ IsBcd m)) (c : Bool) :
    subDecimal a m c = Config.decimalInvalid .sub a m c := by
  rw [subDecimal, if_neg ((validBcd_and_iff a m).not.2 h)]

theorem addToA_decimal {s : State} (hd : s.p.d = true) (m : Byte) :
    s.addToA m = undefinedDecimal s (addDecimal s.a m s.p.c) := by
  rw [State.addToA, if_pos hd]
  rfl

theorem subFromA_decimal {s : State} (hd : s.p.d = true) (m : Byte) :
    s.subFromA m = undefinedDecimal s (subDecimal s.a m s.p.c) := by
  rw [State.subFromA, if_pos hd]
  rfl

/-- A decimal result with the flags of its byte, written by its parts. -/
theorem undefinedDecimal_decimalResult (s : State) (r : Byte) (carry : Bool) :
    undefinedDecimal s (decimalResult r carry) = decimally s r carry := by
  rw [decimally, ← decimal_decimalResult]
  rfl

/-! ### Nibble by nibble -/

/-- The nibble procedure of R154 on decimal digits: the low digits' carry goes into the high digits' sum. -/
theorem addNibbles_eq {ah al mh ml c : Nat} (hah : ah ≤ 9) (hal : al ≤ 9) (hmh : mh ≤ 9) (hml : ml ≤ 9) (hc : c ≤ 1) :
    let lo := if al + ml + c > 9 then al + ml + c + 6 else al + ml + c
    let hi := ah + mh + (if lo > 15 then 1 else 0)
    let hi' := if hi > 9 then hi + 6 else hi
    let t := 10 * ah + al + (10 * mh + ml) + c
    16 * (hi' % 16) + lo % 16 = 16 * (t % 100 / 10) + t % 100 % 10 ∧ (hi' > 15 ↔ t > 99) := by
  dsimp only
  split_ifs <;> omega

/-- The nibble procedure of R155 on decimal digits: the low digits' borrow comes out of the high digits' difference. -/
theorem subNibbles_eq {ah al mh ml c : Nat} (hah : ah ≤ 9) (hal : al ≤ 9) (hmh : mh ≤ 9) (hml : ml ≤ 9) (hc : c ≤ 1) :
    let lo : Int := al - ml - (1 - c)
    let lo' := if lo < 0 then lo - 6 else lo
    let hi : Int := ah - mh - (if lo < 0 then 1 else 0)
    let hi' := if hi < 0 then hi - 6 else hi
    let t : Int := ((10 * ah + al : Nat) : Int) - (10 * mh + ml : Nat) - (1 - c)
    16 * (hi' % 16).toNat + (lo' % 16).toNat = 16 * ((t % 100).toNat / 10) + (t % 100).toNat % 10 ∧
      (¬ hi < 0 ↔ t ≥ 0) := by
  dsimp only
  split_ifs <;> omega

theorem addDecimalByNibbles_eq {a m : Byte} (ha : IsBcd a) (hm : IsBcd m) (c : Bool) :
    addDecimalByNibbles a m c = ((addDecimal a m c).r, (addDecimal a m c).carry) := by
  obtain ⟨hbyte, hcarry⟩ := addNibbles_eq ha.1 ha.2 hm.1 hm.2 c.toNat_le
  rw [addDecimal, if_pos ((validBcd_and_iff a m).2 ⟨ha, hm⟩)]
  exact Prod.ext (congrArg (BitVec.ofNat 8) hbyte) (decide_eq_decide.2 hcarry)

theorem subDecimalByNibbles_eq {a m : Byte} (ha : IsBcd a) (hm : IsBcd m) (c : Bool) :
    subDecimalByNibbles a m c = ((subDecimal a m c).r, (subDecimal a m c).carry) := by
  obtain ⟨hbyte, hborrow⟩ := subNibbles_eq ha.1 ha.2 hm.1 hm.2 c.toNat_le
  rw [subDecimal, if_pos ((validBcd_and_iff a m).2 ⟨ha, hm⟩)]
  exact Prod.ext (congrArg (BitVec.ofNat 8) hbyte) (decide_eq_decide.2 hborrow)

/-! ### The eight forms of each -/

/-- A claim about ADC holds of its eight forms if it holds of every instruction that adds its operand. -/
theorem eachAdc {Q : Instr → ReadOperand → Prop} (h : ∀ i o, (∀ s, exec i s = addWithCarry o s) → Q i o) : EachAdc Q :=
  ⟨fun _ => h _ _ fun _ => rfl, fun _ => h _ _ fun _ => rfl, fun _ => h _ _ fun _ => rfl, fun _ => h _ _ fun _ => rfl,
    fun _ => h _ _ fun _ => rfl, fun _ => h _ _ fun _ => rfl, fun _ => h _ _ fun _ => rfl, fun _ => h _ _ fun _ => rfl⟩

/-- A claim about SBC holds of its eight forms if it holds of every instruction that subtracts its operand. -/
theorem eachSbc {Q : Instr → ReadOperand → Prop} (h : ∀ i o, (∀ s, exec i s = subtractWithCarry o s) → Q i o) : EachSbc Q :=
  ⟨fun _ => h _ _ fun _ => rfl, fun _ => h _ _ fun _ => rfl, fun _ => h _ _ fun _ => rfl, fun _ => h _ _ fun _ => rfl,
    fun _ => h _ _ fun _ => rfl, fun _ => h _ _ fun _ => rfl, fun _ => h _ _ fun _ => rfl, fun _ => h _ _ fun _ => rfl⟩

theorem gives_addToA {i : Instr} {o : ReadOperand} {s : State} (h : s.MemoryReady) (hi : ∀ s, exec i s = addWithCarry o s) :
    Gives i s (s.addToA (o.value s)) := by
  rw [Gives, hi]
  exact addWithCarry_completes h o

theorem gives_subFromA {i : Instr} {o : ReadOperand} {s : State} (h : s.MemoryReady)
    (hi : ∀ s, exec i s = subtractWithCarry o s) : Gives i s (s.subFromA (o.value s)) := by
  rw [Gives, hi]
  exact subtractWithCarry_completes h o

end Sys2Proof.Claims
end

section
/-! SUPPORT. The statements on ADC, SBC and the nibble procedures (spec/42_arithmetic.md), settled. -/

namespace Sys2Proof.Claims

open Sys2Proof.Machine

/-- Settles O18: the model's carry, overflow and complement, over the integers. -/
theorem binaryAdcSbc : Obligations.BinaryAdcSbc := fun _ h hd =>
  ⟨eachAdc fun _ _ hi => addToA_binary hd _ ▸ gives_addToA h hi, eachSbc fun _ _ hi => subFromA_binary hd _ ▸ gives_subFromA h hi⟩

/-- Settles O19: on valid operands the decimal result is the formula's, with Z and N of its byte. -/
theorem decimalAdcSbcOnValidOperands : Obligations.DecimalAdcSbcOnValidOperands := by
  intro s h hd ha
  refine ⟨eachAdc fun i o hi hm => ?_, eachSbc fun i o hi hm => ?_⟩
  · have hg := gives_addToA h hi
    rwa [addToA_decimal hd, addDecimal_of_bcd ha hm, undefinedDecimal_decimalResult] at hg
  · have hg := gives_subFromA h hi
    rwa [subFromA_decimal hd, subDecimal_of_bcd ha hm, undefinedDecimal_decimalResult] at hg

/-- Settles O20: on other operands the result is `DecimalInvalid`'s. -/
theorem decimalAdcSbcOnInvalidOperands : Obligations.DecimalAdcSbcOnInvalidOperands := by
  intro s h hd
  refine ⟨eachAdc fun i o hi hm => ?_, eachSbc fun i o hi hm => ?_⟩
  · have hg := gives_addToA h hi
    rwa [addToA_decimal hd, addDecimal_of_not_bcd hm] at hg
  · have hg := gives_subFromA h hi
    rwa [subFromA_decimal hd, subDecimal_of_not_bcd hm] at hg

/-- Settles O43: nibble by nibble, with the decimal carry or borrow between them. -/
theorem nibbleProceduresAreDecimal : Obligations.NibbleProceduresAreDecimal := fun _ _ c ha hm =>
  ⟨addDecimalByNibbles_eq ha hm c, subDecimalByNibbles_eq ha hm c⟩

end Sys2Proof.Claims
end

section
/-! SUPPORT. The transactions of the operations on the scoped platform, in the order the CPU observes them (spec/40_step_and_addressing.md R133). -/

namespace Sys2Proof.Machine

open Sys2Proof.Claims

/-- A computation on `s` answers `v`, changes nothing but the outputs, and adds `ts` to the trace. -/
def AnswersTracing {α : Type} (r : Host.Outcome (α × State) Fault Refusal) (v : α) (s : State) (ts : List BusTransaction) : Prop :=
  ∃ t, r = .next (v, t) ∧ t.arch = s.arch ∧ t.obs.trace = s.obs.trace ++ ts

/-- A computation on `s` completes as `e` and adds `ts` to the trace. -/
def CompletesTracing (r : Host.Outcome State Fault Refusal) (s e : State) (ts : List BusTransaction) : Prop :=
  ∃ t, r = .next t ∧ t.arch = e.arch ∧ t.obs.trace = s.obs.trace ++ ts

theorem CompletesTracing.traces {r : Host.Outcome State Fault Refusal} {s e : State} {ts : List BusTransaction}
    (h : CompletesTracing r s e ts) : Traces r s ts := by
  obtain ⟨t, hr, -, ht⟩ := h
  exact ⟨t, hr, ht⟩

/-! ### Composition: the transactions of the first part, then those of the second -/

section
variable {α β : Type} {v : α} {w : β} {s u e : State} {ts us : List BusTransaction}

theorem AnswersTracing.pure (v : α) (s : State) : AnswersTracing (.next (v, s)) v s [] :=
  ⟨s, rfl, rfl, (List.append_nil _).symm⟩

theorem AnswersTracing.bind {r : Host.Outcome (α × State) Fault Refusal}
    {k : α × State → Host.Outcome (β × State) Fault Refusal} (h : AnswersTracing r v s ts)
    (hk : ∀ t, t.arch = s.arch → AnswersTracing (k (v, t)) w t us) : AnswersTracing (Machine.andThen r k) w s (ts ++ us) := by
  obtain ⟨t, rfl, hta, ht⟩ := h
  obtain ⟨x, hx, hxa, htrace⟩ := hk t hta
  exact ⟨x, hx, hxa.trans hta, by rw [htrace, ht, List.append_assoc]⟩

theorem AnswersTracing.andThen {r : Host.Outcome (α × State) Fault Refusal}
    {k : α × State → Host.Outcome State Fault Refusal} (h : AnswersTracing r v s ts)
    (hk : ∀ t, t.arch = s.arch → Traces (k (v, t)) t us) : Traces (Machine.andThen r k) s (ts ++ us) := by
  obtain ⟨t, rfl, hta, ht⟩ := h
  obtain ⟨x, hx, htrace⟩ := hk t hta
  exact ⟨x, hx, by rw [htrace, ht, List.append_assoc]⟩

theorem CompletesTracing.andThen {r : Host.Outcome State Fault Refusal} {k : State → Host.Outcome State Fault Refusal}
    (h : CompletesTracing r s u ts) (hk : ∀ t, t.arch = u.arch → CompletesTracing (k t) t e us) :
    CompletesTracing (Machine.andThen r k) s e (ts ++ us) := by
  obtain ⟨t, rfl, hta, ht⟩ := h
  obtain ⟨x, hx, hxa, htrace⟩ := hk t hta
  exact ⟨x, hx, hxa, by rw [htrace, ht, List.append_assoc]⟩

/-- What ends an operation makes no transaction. -/
theorem CompletesTracing.complete {r : Host.Outcome State Fault Refusal} {k : State → Host.Outcome State Fault Refusal}
    {o : State → ExecOutcome} {f : State → State} (h : CompletesTracing r s u ts) (hk : ∀ t, k t = Machine.complete (o t) (f t))
    (hf : ∀ t, (f t).obs = t.obs) : Traces (Machine.andThen r k) s ts := by
  obtain ⟨t, rfl, -, ht⟩ := h
  exact ⟨_, hk t, by rw [State.setOutcome_trace, hf, ht]⟩

end

/-! ### The operations -/

theorem State.scoped_of_arch {s t : State} (h : t.arch = s.arch) (hs : s.Scoped) : t.Scoped :=
  (State.registry_of_arch h).trans hs

section
variable {s : State} (h : s.Scoped)
include h

theorem memRead_tracing (addr : Word) :
    AnswersTracing (memRead addr s) (s.mem.read addr) s [⟨addr, s.mem.read addr, .read⟩] :=
  ⟨_, memRead_scoped h addr, rfl, rfl⟩

theorem memWrite_tracing (addr : Word) (v : Byte) :
    CompletesTracing (memWrite addr v s) s (s.setMem (s.mem.write addr v)) [⟨addr, v, .write⟩] :=
  ⟨_, memWrite_scoped h addr v, rfl, rfl⟩

theorem readPointer_tracing (z : Byte) : AnswersTracing (readPointer z s) (pointerAt z s) s (pointerReads z s) := by
  refine (memRead_tracing h _).bind (us := [⟨zext16 (z + 1), s.mem.read (zext16 (z + 1)), .read⟩]) fun t ht => ?_
  have hread := memRead_tracing (State.scoped_of_arch ht h) (zext16 (z + 1))
  rw [State.mem_of_arch ht] at hread
  exact hread.bind fun u _ => .pure _ u

theorem effectiveAddress_tracing (m : MemOperand) :
    AnswersTracing (effectiveAddress m s) (m.address s, m.crosses s) s (resolveReads m s) := by
  cases m
  case indirectX z =>
    rw [resolveReads, ← List.append_nil (pointerReads _ s)]
    exact (readPointer_tracing h _).bind fun t _ => .pure _ t
  case indirectY z =>
    rw [resolveReads, ← List.append_nil (pointerReads _ s)]
    refine (readPointer_tracing h z).bind fun t ht => ?_
    rw [MemOperand.address, MemOperand.crosses, ← State.y_of_arch ht]
    exact .pure (indexed (pointerAt z s) t.y) t
  all_goals exact .pure _ s

/-- The effective address, then the operand's read. -/
theorem operandValue_tracing (m : MemOperand) :
    AnswersTracing (operandValue (.mem m) s) (s.mem.read (m.address s), m.crosses s) s
      (resolveReads m s ++ [⟨m.address s, s.mem.read (m.address s), .read⟩]) := by
  refine (effectiveAddress_tracing h m).bind fun t ht => ?_
  have hread := memRead_tracing (State.scoped_of_arch ht h) (m.address s)
  rw [State.mem_of_arch ht] at hread
  exact hread.bind fun u _ => .pure _ u

omit h in
theorem State.setReg_obs (r : Register) (v : Byte) : (s.setReg r v).obs = s.obs := by
  cases r <;> rfl

theorem load_traces (r : Register) (m : MemOperand) :
    Traces (load r (.mem m) s) s (resolveReads m s ++ [⟨m.address s, s.mem.read (m.address s), .read⟩]) := by
  have hload := (operandValue_tracing h m).andThen (us := [])
    (k := fun ((v, crossed), s) => complete (.ofCrossed crossed) ((s.setReg r v).setZN v))
    fun t _ => ⟨_, rfl, by rw [List.append_nil, State.setOutcome_trace, State.setZN, State.setP_obs, State.setReg_obs]⟩
  rwa [List.append_nil] at hload

/-- The effective address, then the write: the target is not read. -/
theorem storeTo_traces (m : MemOperand) (v : Byte) :
    Traces (storeTo m v s) s (resolveReads m s ++ [⟨m.address s, v, .write⟩]) :=
  (effectiveAddress_tracing h m).andThen fun _ ht =>
    (memWrite_tracing (State.scoped_of_arch ht h) _ v).complete (f := id) (fun _ => rfl) fun _ => rfl

/-- The effective address, then one read and one write. -/
theorem modify_traces (m : MemOperand) (f : Byte → Status → Byte × Status) :
    Traces (modify m f s) s (resolveReads m s ++
      [⟨m.address s, s.mem.read (m.address s), .read⟩, ⟨m.address s, (f (s.mem.read (m.address s)) s.p).1, .write⟩]) := by
  refine (effectiveAddress_tracing h m).andThen fun t ht => ?_
  have hread := memRead_tracing (State.scoped_of_arch ht h) (m.address s)
  rw [State.mem_of_arch ht] at hread
  refine hread.andThen fun u hu => ?_
  rw [← State.p_of_arch (hu.trans ht)]
  exact (memWrite_tracing (State.scoped_of_arch (hu.trans ht) h) _ _).complete (fun _ => rfl) fun _ => rfl

/-- A push on a state that is `s` but for the outputs. -/
theorem push8_tracing {t : State} (ht : t.arch = s.arch) (v : Byte) :
    CompletesTracing (push8 v t) t (s.pushed v) [⟨stackAddress s.sp, v, .write⟩] := by
  have hpush : push8 v t =
      .next (((t.setMem (t.mem.write (stackAddress t.sp) v)).observe ⟨stackAddress t.sp, v, .write⟩).setSp (t.sp - 1)) := by
    rw [push8, memWrite_scoped (State.scoped_of_arch ht h)]
    rfl
  have hafter : (t.pushed v).arch = (s.pushed v).arch := by
    rw [State.pushed_arch, State.pushed_arch, ht]
  rw [← State.sp_of_arch ht]
  exact ⟨_, hpush, hafter, rfl⟩

/-- The three writes of a frame, in the order pushed. -/
theorem pushFrame_traces (ret : Word) (status : Byte) :
    Traces (pushFrame ret status s) s
      [⟨slot s 0, hiByte ret, .write⟩, ⟨slot s 1, loByte ret, .write⟩, ⟨slot s 2, status, .write⟩] := by
  have hword : CompletesTracing (push16 ret s) s ((s.pushed (hiByte ret)).pushed (loByte ret))
      ([⟨stackAddress s.sp, hiByte ret, .write⟩] ++ [⟨stackAddress (s.sp - 1), loByte ret, .write⟩]) :=
    (push8_tracing h rfl _).andThen fun _ ht => push8_tracing (s := s.pushed (hiByte ret)) h ht _
  have hframe : CompletesTracing (pushFrame ret status s) s (((s.pushed (hiByte ret)).pushed (loByte ret)).pushed status)
      ([⟨stackAddress s.sp, hiByte ret, .write⟩] ++ [⟨stackAddress (s.sp - 1), loByte ret, .write⟩] ++
        [⟨stackAddress (s.sp - 1 - 1), status, .write⟩]) :=
    hword.andThen fun _ ht => push8_tracing (s := (s.pushed (hiByte ret)).pushed (loByte ret)) h ht _
  have hsp : s.sp - 1 - 1 = s.sp - 2 := by bv_omega
  rw [slot_eq_stackAddress, slot_eq_stackAddress, slot_eq_stackAddress, sub_zero, ← hsp]
  exact hframe.traces

end

end Sys2Proof.Machine

namespace Sys2Proof.Claims

open Sys2Proof.Machine

/-- Settles O52, from the transactions of each shared operation. -/
theorem busAccessesComeInOrder : Obligations.BusAccessesComeInOrder := by
  intro s h m
  exact ⟨fun r => load_traces h r m, fun r => storeTo_traces h m (s.reg r), fun _ => modify_traces h m _,
    fun _ => modify_traces h m _, fun ret status => pushFrame_traces h ret status⟩

end Sys2Proof.Claims
end
